-- ==== Sys2Proof/Word.lean ====
section
/-!
DEFINITION. The widths of the values TX346-CORE works on (00_scope.md R5, R6, R8). Only the types: every function on
them stands in Decode.lean or under Machine/.
-/
namespace Sys2Proof

/-- A byte of a lane or block (R8). -/
abbrev Byte := BitVec 8

/-- A lane: "the atomic unit all registers and the AES round operate on" (R5, R14), bit 0 the least significant (R6). -/
abbrev Lane := BitVec 128

/-- A block: a low lane (bits 127..0) and a high lane (bits 255..128) (R5, R14, R114). -/
abbrev Block := BitVec 256

/-- A block count (R28): 64 bits, `+` wraps modulo 2^64. -/
abbrev Count := BitVec 64

/-- The opcode field `OP` = `cmd_op[3:0]` (R70, R72). -/
abbrev Opcode := BitVec 4

/-- One command transaction, the single number `OP || DATA` of R70: `OP` in bits 259..256, `DATA` in bits 255..0. -/
abbrev Transaction := BitVec 260

end Sys2Proof
end

