-- ==== Sys2Proof/Syntax.lean ====
section
/-!
DEFINITION. The commands of 30_encoding.md R72: one constructor per row of spec/opcode_table.json. Each carries the whole `DATA` of
its transaction (R70), split where R71 names two operands; a constructor whose `DATA` is "ignored" (R71) carries it too, so that no
bit of a transaction is lost by decoding it and "the engine ignores them whatever they hold" (R79) is a statement about the meanings.
-/
namespace Sys2Proof

/-- One command of the engine (R72, R73). -/
inductive Instr where
  /-- 0x0 STATUS (R130); `DATA` ignored. -/
  | status (ignored : Block)
  /-- 0x1 LOAD_KEYIV (R131): `key` = `DATA[127:0]`, `iv` = `DATA[255:128]`. -/
  | loadKeyIv (key iv : Lane)
  /-- 0x2 INIT (R132); `DATA` ignored. -/
  | init (ignored : Block)
  /-- 0x3 ABSORB_AD (R150): the associated-data block. -/
  | absorbAd (d : Block)
  /-- 0x4 ENCRYPT (R160): the message block. -/
  | encrypt (m : Block)
  /-- 0x5 DECRYPT (R161): the ciphertext block. -/
  | decrypt (c : Block)
  /-- 0x6 FINALIZE (R180); `DATA` ignored. -/
  | finalize (ignored : Block)
  /-- 0x7, reserved (R73, R201). -/
  | reserved7 (ignored : Block)
  /-- 0x8, reserved (R73, R201). -/
  | reserved8 (ignored : Block)
  /-- 0x9, reserved (R73, R201). -/
  | reserved9 (ignored : Block)
  /-- 0xA, reserved (R73, R201). -/
  | reservedA (ignored : Block)
  /-- 0xB, reserved (R73, R201). -/
  | reservedB (ignored : Block)
  /-- 0xC, reserved (R73, R201). -/
  | reservedC (ignored : Block)
  /-- 0xD, reserved (R73, R201). -/
  | reservedD (ignored : Block)
  /-- 0xE, reserved (R73, R201). -/
  | reservedE (ignored : Block)
  /-- 0xF, reserved (R73, R201). -/
  | reservedF (ignored : Block)
deriving DecidableEq, Repr

end Sys2Proof
end

