-- ==== Sys2Proof/WellFormed.lean ====
section
/-!
DEFINITION. What the assembler's mnemonics can write (30_encoding.md R79). Every operand is a whole lane or block, so no operand can be
out of range, and EVERY command is one the engine performs or answers with an error (R74): this check does not restrict what `exec`
runs. It tells the canonical commands, those a mnemonic line writes, from those only `.raw` can send (log 12).
-/
namespace Sys2Proof

/-- R79: "The assembler writes 0 into ignored DATA fields", and no mnemonic writes a reserved opcode. -/
def Instr.wellFormed : Instr → Bool
  | .status ignored => ignored == 0#256
  | .loadKeyIv _ _ => true
  | .init ignored => ignored == 0#256
  | .absorbAd _ => true
  | .encrypt _ => true
  | .decrypt _ => true
  | .finalize ignored => ignored == 0#256
  | .reserved7 _ => false
  | .reserved8 _ => false
  | .reserved9 _ => false
  | .reservedA _ => false
  | .reservedB _ => false
  | .reservedC _ => false
  | .reservedD _ => false
  | .reservedE _ => false
  | .reservedF _ => false

end Sys2Proof
end

