-- ==== Sys2Proof/Decode.lean ====
section
/-!
DEFINITION. The command format `CMD` (30_encoding.md R70, R71), the decoder (R72 to R74: total, by `OP` alone) and, after it, the
encoder written from the same tables; the reading of a table word for the host's checks.
-/
namespace Sys2Proof

/-- R114: the low lane of a block, `b[127:0]`. -/
def lowLane (b : Block) : Lane := b.extractLsb' 0 128

/-- R114: the high lane of a block, `b[255:128]`. -/
def highLane (b : Block) : Lane := b.extractLsb' 128 128

/-- R114: `combine(lo, hi)` = `hi || lo`. -/
def combine (lo hi : Lane) : Block := hi ++ lo

/-- R70: the field `OP`, bits 259..256 of a transaction. -/
def opField (t : Transaction) : Opcode := t.extractLsb' 256 4

/-- R70: the field `DATA`, bits 255..0 of a transaction. -/
def dataField (t : Transaction) : Block := t.extractLsb' 0 256

/-- R70: the transaction `OP || DATA`. -/
def transaction (op : Opcode) (data : Block) : Transaction := op ++ data

/-- R72 to R74: each of the 16 values of `OP` selects exactly one command, and `DATA` never takes part in the choice. `OP` has 4 bits,
so the last row is the one value left, 0xF. -/
def decodeCommand (op : Opcode) (data : Block) : Instr :=
  match op.toNat with
  | 0 => .status data
  | 1 => .loadKeyIv (lowLane data) (highLane data)
  | 2 => .init data
  | 3 => .absorbAd data
  | 4 => .encrypt data
  | 5 => .decrypt data
  | 6 => .finalize data
  | 7 => .reserved7 data
  | 8 => .reserved8 data
  | 9 => .reserved9 data
  | 10 => .reservedA data
  | 11 => .reservedB data
  | 12 => .reservedC data
  | 13 => .reservedD data
  | 14 => .reservedE data
  | _ => .reservedF data

/-- The decoder: total on every 260-bit transaction (R74). -/
def decode (t : Transaction) : Instr := decodeCommand (opField t) (dataField t)

/-- The opcode column of R72. -/
def Instr.opcode : Instr → Opcode
  | .status _ => 0x0#4
  | .loadKeyIv _ _ => 0x1#4
  | .init _ => 0x2#4
  | .absorbAd _ => 0x3#4
  | .encrypt _ => 0x4#4
  | .decrypt _ => 0x5#4
  | .finalize _ => 0x6#4
  | .reserved7 _ => 0x7#4
  | .reserved8 _ => 0x8#4
  | .reserved9 _ => 0x9#4
  | .reservedA _ => 0xA#4
  | .reservedB _ => 0xB#4
  | .reservedC _ => 0xC#4
  | .reservedD _ => 0xD#4
  | .reservedE _ => 0xE#4
  | .reservedF _ => 0xF#4

/-- The operand table of R71, written back into `DATA`. -/
def Instr.data : Instr → Block
  | .status ignored => ignored
  | .loadKeyIv key iv => combine key iv
  | .init ignored => ignored
  | .absorbAd d => d
  | .encrypt m => m
  | .decrypt c => c
  | .finalize ignored => ignored
  | .reserved7 ignored => ignored
  | .reserved8 ignored => ignored
  | .reserved9 ignored => ignored
  | .reservedA ignored => ignored
  | .reservedB ignored => ignored
  | .reservedC ignored => ignored
  | .reservedD ignored => ignored
  | .reservedE ignored => ignored
  | .reservedF ignored => ignored

/-- The encoder: the one transaction of a command (R70 to R72). -/
def encode (i : Instr) : Transaction := transaction i.opcode i.data

/-- The transaction a table word stands for. spec/opcode_table.json numbers the bits of `OP` 3..0 ("match and mask apply to OP"), and `DATA`
counts on from bit 4; bits at and above `nbits` are 0 (log 13). -/
def tableTransaction (nbits w : Nat) : Transaction :=
  let v := w % 2 ^ nbits
  transaction (BitVec.ofNat 4 v) (BitVec.ofNat 256 (v / 16))

/-- The instruction the decoder reads from a table word; it refuses none (R74). -/
def decodeTableWord (nbits w : Nat) : Option Instr := some (decode (tableTransaction nbits w))

end Sys2Proof
end

