-- ==== Sys2Proof/Config.lean ====
section
/-!
DEFINITION. What an instance of the engine fixes (00_scope.md R5, 40_datapath.md R107, 70_reset_and_hazards.md R232, R237),
as a record the state carries, and the opaque constants behind the values the spec leaves open.
-/
namespace Sys2Proof

/-- The open parameters of one engine instance (R5): "fixed for an instance and never written" (R107). `z0` and `z1` are
`Z0` and `Z1`; `latExtra` holds `LAT(op) - 1` for each opcode, so that `LAT(op)` is at least 1 (R237); `latReset` is
`LAT_RESET` (R232). -/
structure Params where
  z0       : Lane
  z1       : Lane
  latExtra : Vector Nat 16
  latReset : Nat
deriving DecidableEq, Repr

/-- R107: the premise `Z0 != Z1` on the two constants. -/
abbrev Params.Distinct (p : Params) : Prop := p.z0 ≠ p.z1

/-- `Z0`, "a fixed public 128-bit constant" with no value in the source (R107, D6; log 1). Opaque: nothing can be proved of it. -/
opaque Config.z0 : Lane

/-- The open choice behind `Z1` (R107, D6; log 1). -/
opaque Config.z1Open : Lane

/-- `Z1`, "a second fixed public constant distinct from Z0" (R107). Where the open choice happens to equal `Z0` it is replaced
by the complement of `Z0`, so every pair of distinct lanes, and no other pair, can be (`Z0`, `Z1`) (log 1). -/
def Config.z1 : Lane := if Config.z1Open = Config.z0 then ~~~Config.z0 else Config.z1Open

/-- `LAT(op) - 1` for each opcode (R237, D24; log 8). -/
opaque Config.latExtra : Opcode → Nat

/-- `LAT_RESET` (R232, D24; log 9). -/
opaque Config.latReset : Nat

/-- The free value behind the `n`-th delay the engine draws (R232, R237; log 8, log 9): how many edges a response or the
first `cmd_ready` after reset takes, before it is brought inside its bound. -/
opaque Config.freeDelay : Nat → Nat

/-- The parameters of the instance that `State.reset` describes. -/
def Config.params : Params where
  z0       := Config.z0
  z1       := Config.z1
  latExtra := Vector.ofFn fun i => Config.latExtra (BitVec.ofFin i)
  latReset := Config.latReset

end Sys2Proof
end

