-- ==== Sys2Proof/Machine/State.lean ====
section
/-!
DEFINITION. The state of the engine (10_state.md R20, R33), what the spec implies beside it (a command in flight, the delay after reset), the
instance's parameters, and the script of the pins; the state after reset (R34, R231); the reasons a step could stop.
-/
namespace Sys2Proof.Machine

/-- `PHASE` (R27): the five values the field ever holds (log 5). -/
inductive Phase where
  /-- 0: no session, after reset or LOAD_KEYIV. -/
  | idle
  /-- 1: after INIT; associated data may be absorbed, and the first message block fixes the direction. -/
  | ad
  /-- 2: at least one ENCRYPT performed in this session. -/
  | enc
  /-- 3: at least one DECRYPT performed in this session. -/
  | dec
  /-- 4: FINALIZE performed. -/
  | done
deriving DecidableEq, Repr

/-- The 13 lanes (R21): three registers of fixed capacity 3, 4 and 6, lane 0 the head (R7). -/
structure Lanes where
  t3 : Vector Lane 3
  t4 : Vector Lane 4
  t6 : Vector Lane 6
deriving DecidableEq, Repr

/-- A command accepted and not yet answered (R33, R236): its transaction, and the rising edges that still pass BEFORE the edge that performs
it (`wait` = 0: the next edge performs it) (log 7). -/
structure InFlight where
  command : Transaction
  wait    : Nat
deriving DecidableEq, Repr

/-- The levels of the engine's input pins at one rising edge of `clk` (20_memory.md R50). -/
structure Pins where
  rst      : Bool
  cmdValid : Bool
  cmdOp    : Opcode
  cmdData  : Block
  rspReady : Bool
deriving DecidableEq, Repr

/-- Every input at 0: the host offers nothing and takes nothing (log 6). -/
def Pins.quiet : Pins := ⟨false, false, 0#4, 0#256, false⟩

/-- The machine. The fields from `lanes` to `rspData` are the elements of R20; `inFlight` and `readyWait` are the engine's busy state (R33, R236)
and its reset-to-ready delay (R232); `params` are the open parameters (R5, R107), which no step writes; `inputs` are the pin levels of the
coming rising edges, the next one first; `delays` and `draws` hold the free delays (log 8). -/
structure State where
  lanes      : Lanes
  key        : Lane
  iv         : Lane
  keyValid   : Bool
  phase      : Phase
  adCount    : Count
  msgCount   : Count
  rspPending : Bool
  rspStatus  : BitVec 4
  rspData    : Block
  inFlight   : Option InFlight
  readyWait  : Nat
  params     : Params
  inputs     : List Pins
  delays     : List Nat
  draws      : Nat
deriving DecidableEq, Repr

/-- Why a step could stop the machine. It has no constructor: "The engine raises no traps, exceptions or interrupts" (R200), every accepted command
ends in exactly one response, and a response the host never takes "is a hold, not an error" (R236). Nothing raises a fault; that none exists is neither
safe nor unsafe, it is the spec's own statement (log 10). -/
inductive Fault where
deriving DecidableEq, Repr

/-- Why an instruction could have no meaning. -/
inductive Refusal where
  /-- Raised only by an arm of `exec` that has no meaning yet (there is none left); safe: a refused run proves nothing. -/
  | notModelled (mnemonic : String)
deriving DecidableEq, Repr

/-- What a step and a meaning answer. -/
abbrev Result := Host.Outcome State Fault Refusal

/-- All 13 lanes zero: what the lanes hold after reset in the model; the spec gives them "no value" (R34; log 3). -/
def Lanes.zero : Lanes where
  t3 := Vector.replicate 3 0#128
  t4 := Vector.replicate 4 0#128
  t6 := Vector.replicate 6 0#128

/-- The state a reset leaves (R34, R231) in an instance with parameters `p`, where `wait` edges pass before `cmd_ready` rises (R232), and the script
of the coming edges and delays is as given. `KEY`, `IV`, the lanes, `RSP_STATUS` and `RSP_DATA`, to which R34 gives no value, are 0
(log 2, log 3, log 4). -/
def State.afterReset (p : Params) (wait : Nat) (inputs : List Pins) (delays : List Nat) (draws : Nat) : State where
  lanes      := Lanes.zero
  key        := 0#128
  iv         := 0#128
  keyValid   := false
  phase      := .idle
  adCount    := 0#64
  msgCount   := 0#64
  rspPending := false
  rspStatus  := 0#4
  rspData    := 0#256
  inFlight   := none
  readyWait  := wait
  params     := p
  inputs     := inputs
  delays     := delays
  draws      := draws

/-- The machine right after reset: the open parameters, the free reset-to-ready delay (draw number 0, at most `LAT_RESET`), and a host that drives
nothing (log 6, log 9). -/
def State.reset : State :=
  State.afterReset Config.params (Config.freeDelay 0 % (Config.latReset + 1)) [] [] 1

end Sys2Proof.Machine
end

