-- ==== Sys2Proof/Machine/Operands.lean ====
section
/-!
DEFINITION. The operand forms of 30_encoding.md R71 and the byte views of R8 and R53: the two lanes of a block, the bytes of a lane, and the lane made of 16 bytes.
-/
namespace Sys2Proof.Machine

/-- R114: `split(b)` = (`b[127:0]`, `b[255:128]`). -/
def split (b : Block) : Lane × Lane := (lowLane b, highLane b)

/-- R8: byte `i` of a lane, `x[8i+7:8i]`. -/
def laneByte (x : Lane) (i : Nat) : Byte := x.extractLsb' (8 * i) 8

/-- R8, R53: byte `j` of a block, `b[8j+7:8j]`. -/
def blockByte (b : Block) (j : Nat) : Byte := b.extractLsb' (8 * j) 8

/-- The lane whose byte `i` is `f i`, for `i` from 0 to 15 (R8). -/
def laneOfBytes (f : Nat → Byte) : Lane :=
  (List.range 16).foldr (fun i acc => (acc <<< 8) ||| (f i).setWidth 128) 0#128

/-- R112: `lengthWord(n)`: bits 63..0 hold `n`, bits 127..64 are 0 (C1: section 4.7 of the source governs). -/
def lengthWord (n : Count) : Lane := n.setWidth 128

/-- R76, D37: `zext_256(Tag)`. -/
def zext256 (tag : Lane) : Block := tag.setWidth 256

end Sys2Proof.Machine
end

