-- ==== Sys2Proof/Machine/Aes.lean ====
section
/-!
DEFINITION. The AES round (40_datapath.md R101 to R106): SubBytes, ShiftRows, MixColumns, AddRoundKey on a lane read as the AES state `s[r][c]` = byte `r + 4c` (R102).
-/
namespace Sys2Proof.Machine

/-- R103: the SBOX table, a row of 16 bytes for each high digit, written as the rule prints it (column 0 first). -/
def sboxRows : List (BitVec 128) :=
  [0x637c777bf26b6fc53001672bfed7ab76#128,
   0xca82c97dfa5947f0add4a2af9ca472c0#128,
   0xb7fd9326363ff7cc34a5e5f171d83115#128,
   0x04c723c31896059a071280e2eb27b275#128,
   0x09832c1a1b6e5aa0523bd6b329e32f84#128,
   0x53d100ed20fcb15b6acbbe394a4c58cf#128,
   0xd0efaafb434d338545f9027f503c9fa8#128,
   0x51a3408f929d38f5bcb6da2110fff3d2#128,
   0xcd0c13ec5f974417c4a77e3d645d1973#128,
   0x60814fdc222a908846eeb814de5e0bdb#128,
   0xe0323a0a4906245cc2d3ac629195e479#128,
   0xe7c8376d8dd54ea96c56f4ea657aae08#128,
   0xba78252e1ca6b4c6e8dd741f4bbd8b8a#128,
   0x703eb5664803f60e613557b986c11d9e#128,
   0xe1f8981169d98e949b1e87e9ce5528df#128,
   0x8ca1890dbfe6426841992d0fb054bb16#128]

/-- R103: `SBOX[x]`, the row the high hex digit of `x` names and the column its low digit names. -/
def sbox (x : Byte) : Byte :=
  (sboxRows.getD (x.toNat / 16) 0#128).extractLsb' (8 * (15 - x.toNat % 16)) 8

/-- R105: `2*x` in GF(2^8) modulo x^8 + x^4 + x^3 + x + 1. -/
def mul2 (x : Byte) : Byte := (x <<< 1) ^^^ (if x.getLsbD 7 then 0x1b#8 else 0x00#8)

/-- R105: `3*x` = `(2*x) XOR x`. -/
def mul3 (x : Byte) : Byte := mul2 x ^^^ x

/-- R103: SubBytes replaces every state byte by its SBOX entry. -/
def subBytes (a : Lane) : Lane := laneOfBytes fun i => sbox (laneByte a i)

/-- R102: the state byte `s[r][c]`, byte `r + 4c` of the lane. -/
def stateByte (a : Lane) (r c : Nat) : Byte := laneByte a (r + 4 * c)

/-- R102: the lane whose state bytes are given by row and column. -/
def laneOfState (s : Nat → Nat → Byte) : Lane := laneOfBytes fun i => s (i % 4) (i / 4)

/-- R104: ShiftRows, `s'[r][c]` = `s[r][(c + r) mod 4]`. -/
def shiftRows (a : Lane) : Lane := laneOfState fun r c => stateByte a r ((c + r) % 4)

/-- R105: row `r` of the new column made from the column (`s0`, `s1`, `s2`, `s3`). -/
def mixColumn (s0 s1 s2 s3 : Byte) (r : Nat) : Byte :=
  match r with
  | 0 => mul2 s0 ^^^ mul3 s1 ^^^ s2 ^^^ s3
  | 1 => s0 ^^^ mul2 s1 ^^^ mul3 s2 ^^^ s3
  | 2 => s0 ^^^ s1 ^^^ mul2 s2 ^^^ mul3 s3
  | _ => mul3 s0 ^^^ s1 ^^^ s2 ^^^ mul2 s3

/-- R105: MixColumns replaces each column. -/
def mixColumns (a : Lane) : Lane :=
  laneOfState fun r c => mixColumn (stateByte a 0 c) (stateByte a 1 c) (stateByte a 2 c) (stateByte a 3 c) r

/-- R106: `round(a, k)` = `MixColumns(ShiftRows(SubBytes(a))) XOR k`; the key `k` is used as is. -/
def aesRound (a k : Lane) : Lane := mixColumns (shiftRows (subBytes a)) ^^^ k

end Sys2Proof.Machine
end

