-- ==== Sys2Proof/Machine/Datapath.lean ====
section
/-!
DEFINITION. The lane computations of 40_datapath.md: the register advance (R108), the three-register update (R110), the blank rounds (R111), the keystream (R113), the tag (R115),
and the lane part of each command of files 41 to 44.
-/
namespace Sys2Proof.Machine

/-- R108: `advance(T, m)` for a register of capacity `n + 2`; every new lane is computed from the old ones (R12, R109). -/
def advance {n : Nat} (z0 : Lane) (t : Vector Lane (n + 2)) (m : Lane) : Vector Lane (n + 2) :=
  Vector.ofFn fun i =>
    if i.val = 0 then aesRound t[n + 1] t[0] ^^^ m
    else if i.val = 1 then aesRound t[0] z0
    else t[i.val - 1]

/-- R110: `Update(m0, m1, m2)`: three independent advances. -/
def update (p : Params) (m0 m1 m2 : Lane) (l : Lanes) : Lanes where
  t3 := advance (n := 1) p.z0 l.t3 m0
  t4 := advance (n := 2) p.z0 l.t4 m1
  t6 := advance (n := 4) p.z0 l.t6 m2

/-- R150, R160: absorbing a block is `Update(lo, hi, lo XOR hi)`. -/
def absorbBlock (p : Params) (b : Block) (l : Lanes) : Lanes :=
  let (lo, hi) := split b
  update p lo hi (lo ^^^ hi) l

/-- R111: an initialization blank round, `Update(Z0, Z1, Z0)`. -/
def initRound (p : Params) (l : Lanes) : Lanes := update p p.z0 p.z1 p.z0 l

/-- R111: a finalization blank round, `Update(Z1, Z0, Z1)`. -/
def finalRound (p : Params) (l : Lanes) : Lanes := update p p.z1 p.z0 p.z1 l

/-- R132: the lanes INIT loads before its blank rounds. -/
def loadedLanes (p : Params) (key iv : Lane) : Lanes where
  t3 := #v[key, key, iv]
  t4 := #v[key, key, iv, p.z0]
  t6 := #v[key, key, iv, p.z1, 0#128, 0#128]

/-- R132: the lanes after INIT: the load, then `INIT_ROUNDS` = 15 blank rounds (R5, R111). -/
def initLanes (p : Params) (key iv : Lane) : Lanes := Nat.iterate (initRound p) 15 (loadedLanes p key iv)

/-- R113: the low keystream lane. -/
def keystreamLo (l : Lanes) : Lane := l.t3[0] ^^^ l.t3[2] ^^^ l.t4[1] ^^^ (l.t6[3] &&& l.t4[3])

/-- R113: the high keystream lane. -/
def keystreamHi (l : Lanes) : Lane := l.t6[0] ^^^ l.t4[2] ^^^ l.t3[1] ^^^ (l.t6[5] &&& l.t3[2])

/-- R160: the ciphertext block, the keystream lanes of the state AFTER the absorption. -/
def cipherBlock (l : Lanes) : Block := combine (keystreamLo l) (keystreamHi l)

/-- R161: the lanes after the shift without absorbing, `Update(0, 0, 0)`. -/
def shiftLanes (p : Params) (l : Lanes) : Lanes := update p 0#128 0#128 0#128 l

/-- R161: the message lanes DECRYPT recovers, read from the shifted lanes `l`; `m_hi` uses the `m_lo` just computed. -/
def messageLanes (c : Block) (l : Lanes) : Lane × Lane :=
  let mLo := lowLane c ^^^ keystreamLo l
  (mLo, highLane c ^^^ keystreamHi l ^^^ mLo)

/-- R161: the patch of the three head lanes. -/
def patchHeads (mLo mHi : Lane) (l : Lanes) : Lanes where
  t3 := l.t3.set 0 (l.t3[0] ^^^ mLo)
  t4 := l.t4.set 0 (l.t4[0] ^^^ mHi)
  t6 := l.t6.set 0 (l.t6[0] ^^^ (mLo ^^^ mHi))

/-- R161: DECRYPT on the lanes: shift, read the keystream, patch (R238: in this order); the new lanes and the message block. -/
def decryptLanes (p : Params) (c : Block) (l : Lanes) : Lanes × Block :=
  let shifted := shiftLanes p l
  let (mLo, mHi) := messageLanes c shifted
  (patchHeads mLo mHi shifted, combine mLo mHi)

/-- R115: the XOR of all 13 lanes. -/
def tagOf (l : Lanes) : Lane :=
  l.t3[0] ^^^ l.t3[1] ^^^ l.t3[2] ^^^ l.t4[0] ^^^ l.t4[1] ^^^ l.t4[2] ^^^ l.t4[3] ^^^
    l.t6[0] ^^^ l.t6[1] ^^^ l.t6[2] ^^^ l.t6[3] ^^^ l.t6[4] ^^^ l.t6[5]

/-- R180: FINALIZE on the lanes: the length update, then `FINAL_ROUNDS` = 20 blank rounds (R5, R111). -/
def finalLanes (p : Params) (adLen mLen : Count) (l : Lanes) : Lanes :=
  Nat.iterate (finalRound p) 20 (update p (lengthWord adLen) (lengthWord mLen) (lengthWord (adLen ^^^ mLen)) l)

end Sys2Proof.Machine
end

