-- ==== Sys2Proof/Machine/Flags.lean ====
section
/-!
DEFINITION. The engine has no condition flags (10_state.md R31). What plays their part: the status codes of a response (30_encoding.md R75), the STATUS word (R77), and the
legality table of 60_exceptions.md R203 that the session fields feed.
-/
namespace Sys2Proof.Machine

/-- R75: the four status codes the engine produces. -/
inductive RspCode where
  | ok
  | illegalCmd
  | noKey
  | seqError
deriving DecidableEq, Repr

/-- R75: the value of a status code on `rsp_status`. -/
def rspCodeBits : RspCode → BitVec 4
  | .ok => 0x0#4
  | .illegalCmd => 0x1#4
  | .noKey => 0x2#4
  | .seqError => 0x3#4

/-- R27: the encoding of `PHASE`. -/
def phaseBits : Phase → BitVec 3
  | .idle => 0#3
  | .ad => 1#3
  | .enc => 2#3
  | .dec => 3#3
  | .done => 4#3

/-- R77: the STATUS word: `PHASE` in [2:0], `KEY_VALID` in [8], `AD_COUNT` in [127:64], `MSG_COUNT` in [191:128], every other bit 0. -/
def statusWord (s : State) : Block :=
  0#64 ++ s.msgCount ++ s.adCount ++ 0#55 ++ BitVec.ofBool s.keyValid ++ 0#5 ++ phaseBits s.phase

/-- R73: the opcodes 0x7 to 0xF are reserved. -/
def isReserved (op : Opcode) : Bool := decide (0x7 ≤ op.toNat)

/-- R202: the commands that need a key, INIT (0x2) to FINALIZE (0x6). -/
def needsKey (op : Opcode) : Bool := decide (0x2 ≤ op.toNat ∧ op.toNat ≤ 0x6)

/-- R203: `legal(PHASE, op)`, the entries of the table that say "ok". -/
def legal (ph : Phase) (op : Opcode) : Bool :=
  match op.toNat with
  | 0x0 => true
  | 0x1 => true
  | 0x2 => true
  | 0x3 => decide (ph = .ad)
  | 0x4 => decide (ph = .ad ∨ ph = .enc)
  | 0x5 => decide (ph = .ad ∨ ph = .dec)
  | 0x6 => decide (ph = .ad ∨ ph = .enc ∨ ph = .dec)
  | _ => false

end Sys2Proof.Machine
end

