-- ==== Sys2Proof/Machine/Ops.lean ====
section
/-!
DEFINITION. The named updates of the state and the shape every command shares: producing the response (00_scope.md R11), the error response (60_exceptions.md R204: this
engine's one "exception entry"; there is nothing to return from, R207), and the checks of `perform` (30_encoding.md R78) in their order.
-/
namespace Sys2Proof.Machine

/-- R11, R33: `respond(status, data)`: the command's one response becomes pending. -/
def respond (code : RspCode) (data : Block) (s : State) : State :=
  { s with rspPending := true, rspStatus := rspCodeBits code, rspData := data }

/-- R11, R204: `raise E`: no state element is written and the response is `respond(code(E), 0)`. -/
def raise (e : RspCode) (s : State) : State := respond e 0#256 s

/-- Write all 13 lanes (R21: values are replaced in place). -/
def setLanes (l : Lanes) (s : State) : State := { s with lanes := l }

/-- R131: write `KEY` and `IV` and set `KEY_VALID`. -/
def setKeyIv (key iv : Lane) (s : State) : State := { s with key := key, iv := iv, keyValid := true }

/-- Write `PHASE` (R27). -/
def setPhase (ph : Phase) (s : State) : State := { s with phase := ph }

/-- R28: INIT and LOAD_KEYIV set both counters to 0. -/
def clearCounts (s : State) : State := { s with adCount := 0#64, msgCount := 0#64 }

/-- R28: `AD_COUNT <- (AD_COUNT + 1) mod 2^64`. -/
def countAd (s : State) : State := { s with adCount := s.adCount + 1#64 }

/-- R28: `MSG_COUNT <- (MSG_COUNT + 1) mod 2^64`. -/
def countMsg (s : State) : State := { s with msgCount := s.msgCount + 1#64 }

/-- R78: perform the command with opcode `op` whose rule is `body`: the three checks in their order, then the rule. -/
def perform (op : Opcode) (body : State → State) (s : State) : Result :=
  if isReserved op then .next (raise .illegalCmd s)
  else if needsKey op && !s.keyValid then .next (raise .noKey s)
  else if !legal s.phase op then .next (raise .seqError s)
  else .next (body s)

end Sys2Proof.Machine
end

