-- ==== Sys2Proof/Machine/Absorb.lean ====
section
/-!
DEFINITION. The associated-data command ABSORB_AD (42_absorb.md R150).
-/
namespace Sys2Proof.Machine

/-- R150: absorb one associated-data block; `PHASE` stays AD. -/
def execAbsorbAd (d : Block) (s : State) : Result :=
  perform 0x3#4 (fun s => respond .ok 0#256 (countAd (setLanes (absorbBlock s.params d s.lanes) s))) s

end Sys2Proof.Machine
end

