-- ==== Sys2Proof/Machine/Finalize.lean ====
section
/-!
DEFINITION. The finalization command FINALIZE (44_finalize.md R180).
-/
namespace Sys2Proof.Machine

/-- R180: bind the block counts, run the blank rounds and answer the tag in the low lane; the counters stay; `DATA` is ignored. -/
def execFinalize (_ignored : Block) (s : State) : Result :=
  perform 0x6#4
    (fun s =>
      let l := finalLanes s.params s.adCount s.msgCount s.lanes
      respond .ok (zext256 (tagOf l)) (setPhase .done (setLanes l s))) s

end Sys2Proof.Machine
end

