-- ==== Sys2Proof/Machine/Message.lean ====
section
/-!
DEFINITION. The message commands ENCRYPT and DECRYPT (43_encrypt_decrypt.md R160, R161).
-/
namespace Sys2Proof.Machine

/-- R160: absorb the message block FIRST, then answer the keystream lanes of the new state (R238). -/
def execEncrypt (m : Block) (s : State) : Result :=
  perform 0x4#4
    (fun s =>
      let l := absorbBlock s.params m s.lanes
      respond .ok (cipherBlock l) (setPhase .enc (countMsg (setLanes l s)))) s

/-- R161: shift without absorbing, recover the message, patch the heads (R238). -/
def execDecrypt (c : Block) (s : State) : Result :=
  perform 0x5#4
    (fun s =>
      let r := decryptLanes s.params c s.lanes
      respond .ok r.2 (setPhase .dec (countMsg (setLanes r.1 s)))) s

end Sys2Proof.Machine
end

