-- ==== Sys2Proof/Machine/Reserved.lean ====
section
/-!
DEFINITION. The nine reserved opcodes (30_encoding.md R73, 60_exceptions.md R201): each answers ILLEGAL_CMD with data 0 and changes nothing else,
in every phase, with or without a key, whatever `DATA` holds. None has a rule of its own, so none has a body to perform.
-/
namespace Sys2Proof.Machine

/-- R201: opcode 0x7 is reserved. -/
def execReserved7 (_ignored : Block) (s : State) : Result := perform 0x7#4 id s

/-- R201: opcode 0x8 is reserved. -/
def execReserved8 (_ignored : Block) (s : State) : Result := perform 0x8#4 id s

/-- R201: opcode 0x9 is reserved. -/
def execReserved9 (_ignored : Block) (s : State) : Result := perform 0x9#4 id s

/-- R201: opcode 0xA is reserved. -/
def execReservedA (_ignored : Block) (s : State) : Result := perform 0xA#4 id s

/-- R201: opcode 0xB is reserved. -/
def execReservedB (_ignored : Block) (s : State) : Result := perform 0xB#4 id s

/-- R201: opcode 0xC is reserved. -/
def execReservedC (_ignored : Block) (s : State) : Result := perform 0xC#4 id s

/-- R201: opcode 0xD is reserved. -/
def execReservedD (_ignored : Block) (s : State) : Result := perform 0xD#4 id s

/-- R201: opcode 0xE is reserved. -/
def execReservedE (_ignored : Block) (s : State) : Result := perform 0xE#4 id s

/-- R201: opcode 0xF is reserved. -/
def execReservedF (_ignored : Block) (s : State) : Result := perform 0xF#4 id s

end Sys2Proof.Machine
end

