-- ==== Sys2Proof/Machine/Session.lean ====
section
/-!
DEFINITION. The session commands STATUS, LOAD_KEYIV and INIT (41_session.md R130 to R132).
-/
namespace Sys2Proof.Machine

/-- R130: answer the STATUS word; `DATA` is ignored. -/
def execStatus (_ignored : Block) (s : State) : Result :=
  perform 0x0#4 (fun s => respond .ok (statusWord s) s) s

/-- R131: load the key and the IV, end any session; the lanes are not written. -/
def execLoadKeyIv (key iv : Lane) (s : State) : Result :=
  perform 0x1#4 (fun s => respond .ok 0#256 (clearCounts (setPhase .idle (setKeyIv key iv s)))) s

/-- R132: start a session from `KEY` and `IV`; `DATA` is ignored. -/
def execInit (_ignored : Block) (s : State) : Result :=
  perform 0x2#4
    (fun s => respond .ok 0#256 (setPhase .ad (clearCounts (setLanes (initLanes s.params s.key s.iv) s)))) s

end Sys2Proof.Machine
end

