-- ==== Sys2Proof/Machine/Dispatch.lean ====
section
/-!
DEFINITION. Performing a command: one arm per command of 30_encoding.md R72, each a call of its meaning (R78).
-/
namespace Sys2Proof.Machine

/-- R78: `perform(S, op, data)`, with the command decoded: the new state and, in it, the response. -/
def exec (i : Instr) (s : State) : Host.Outcome State Fault Refusal :=
  match i with
  | .status d => Sys2Proof.Machine.execStatus d s
  | .loadKeyIv key iv => Sys2Proof.Machine.execLoadKeyIv key iv s
  | .init d => Sys2Proof.Machine.execInit d s
  | .absorbAd d => Sys2Proof.Machine.execAbsorbAd d s
  | .encrypt m => Sys2Proof.Machine.execEncrypt m s
  | .decrypt c => Sys2Proof.Machine.execDecrypt c s
  | .finalize d => Sys2Proof.Machine.execFinalize d s
  | .reserved7 d => Sys2Proof.Machine.execReserved7 d s
  | .reserved8 d => Sys2Proof.Machine.execReserved8 d s
  | .reserved9 d => Sys2Proof.Machine.execReserved9 d s
  | .reservedA d => Sys2Proof.Machine.execReservedA d s
  | .reservedB d => Sys2Proof.Machine.execReservedB d s
  | .reservedC d => Sys2Proof.Machine.execReservedC d s
  | .reservedD d => Sys2Proof.Machine.execReservedD d s
  | .reservedE d => Sys2Proof.Machine.execReservedE d s
  | .reservedF d => Sys2Proof.Machine.execReservedF d s

end Sys2Proof.Machine
end

