-- ==== Sys2Proof/Machine/Port.lean ====
section
/-!
DEFINITION. The ports (20_memory.md R50, R51) and what one rising edge of `clk` does when it performs no command (70_reset_and_hazards.md R230 to R237):
reset, a response offered or taken, a command waiting for its latency, a command accepted, an idle edge.
-/
namespace Sys2Proof.Machine

/-- The pin levels the next rising edge samples: the script's first entry, or every input at 0 when the script is empty (log 6). -/
def sampledPins (s : State) : Pins := s.inputs.headD Pins.quiet

/-- The script after the next edge has sampled its first entry. -/
def popEdge (s : State) : State := { s with inputs := s.inputs.tail }

/-- R33, R50: `rsp_valid` equals `RSP_PENDING`. -/
def rspValid (s : State) : Bool := s.rspPending

/-- R236: `cmd_ready` is 0 from the edge that accepts a command until its response is taken, 0 while the reset-to-ready delay runs (R232), and 1
otherwise. It is a function of the state between two edges and does not look at `rst`: DESIGN CHOICE (log 17), since the spec gives `cmd_ready` no level while `rst` = 1
(R230 and R51 say only that no command is accepted then). So it can be 1 between two edges of a held reset, when the delay drawn at the first is 0. -/
def cmdReady (s : State) : Bool := !s.rspPending && s.inFlight.isNone && decide (s.readyWait = 0)

/-- R237: `LAT(op)`, at least 1. -/
def latOf (p : Params) (op : Opcode) : Nat := p.latExtra[op.toNat] + 1

/-- The next free delay: the one the run fixes in advance, or else the opaque one (log 8). -/
def nextDelay (s : State) : Nat := s.delays.headD (Config.freeDelay s.draws)

/-- The state once the next free delay has been drawn. -/
def drawn (s : State) : State := { s with delays := s.delays.tail, draws := s.draws + 1 }

/-- R237: how many edges after the accepting one the response of `op` appears: a free value from 1 to `LAT(op)` (log 8). -/
def latencyOf (s : State) (op : Opcode) : Nat := nextDelay s % latOf s.params op + 1

/-- R230, R231: an edge with `rst` = 1: every state element takes its reset value, a command in flight is abandoned, a pending response is dropped; `cmd_ready`
rises after a free delay of at most `LAT_RESET` (R232; log 9). -/
def resetEdge (s : State) : State :=
  let d := drawn (popEdge s)
  State.afterReset d.params (nextDelay s % (s.params.latReset + 1)) d.inputs d.delays d.draws

/-- R236: an edge with a response pending: `rsp_ready` = 1 takes it, and otherwise it stays. A taken response leaves `RSP_STATUS` and `RSP_DATA` as they are
(I25; log 4). -/
def responseEdge (s : State) : State :=
  { popEdge s with rspPending := !(sampledPins s).rspReady }

/-- R33, R237: an edge between the acceptance of a command and the edge that performs it. -/
def waitEdge (f : InFlight) (s : State) : State :=
  { popEdge s with inFlight := some { f with wait := f.wait - 1 } }

/-- The state the performing edge hands to `exec`: the edge's sample is consumed and the command is no longer in flight (R55: its whole effect and its response
come together; log 7). -/
def performEdge (s : State) : State := { popEdge s with inFlight := none }

/-- R51, R235: the command accepted is the pair (`cmd_op`, `cmd_data`) sampled at this edge. -/
def acceptEdge (s : State) : State :=
  { drawn (popEdge s) with
    inFlight := some
      { command := transaction (sampledPins s).cmdOp (sampledPins s).cmdData
        wait := latencyOf s (sampledPins s).cmdOp - 1 } }

/-- R51, R214, R232, R236: an edge with no response pending and no command in flight: the reset-to-ready delay runs, or an offered command is accepted, or the
engine idles and holds its state. -/
def commandEdge (s : State) : State :=
  if cmdReady s then
    if (sampledPins s).cmdValid then acceptEdge s else popEdge s
  else { popEdge s with readyWait := s.readyWait - 1 }

/-- The state in which the next edge performs command `t`: it is in flight with no edge left to wait, no response is pending, the reset-to-ready delay is over,
and the next edge samples quiet pins (so no reset) (log 13). -/
def withCommand (s : State) (t : Transaction) : State :=
  { s with
    rspPending := false
    inFlight := some { command := t, wait := 0 }
    readyWait := 0
    inputs := Pins.quiet :: s.inputs }

end Sys2Proof.Machine
end

