-- ==== Sys2Proof/Machine/Step.lean ====
section
/-!
DEFINITION. One step of the machine: one rising edge of `clk` (20_memory.md R50), which resets the engine (R230), offers its response (R236), lets a command in flight wait
or performs it (R33, R237), or stands ready for a command (R51).
-/
namespace Sys2Proof.Machine

/-- One rising edge of `clk`. A command is performed only at an edge with `rst` = 0 and `RSP_PENDING` = 0 (R33, R230). -/
def step (s : State) : Host.Outcome State Fault Refusal :=
  if (sampledPins s).rst then .next (resetEdge s)
  else if s.rspPending then .next (responseEdge s)
  else match s.inFlight with
    | some f => if f.wait = 0 then exec (decode f.command) (performEdge s) else .next (waitEdge f s)
    | none => .next (commandEdge s)

/-- `s` with the command a table word stands for where the next step performs it (log 13). -/
def State.withFetchWord (s : State) (nbits w : Nat) : State :=
  withCommand s (tableTransaction nbits w)

end Sys2Proof.Machine
end

