-- ==== Sys2Proof/Machine/Assembler.lean ====
section
/-!
DEFINITION. The assembler's one-line form and the listing (30_encoding.md R79), written values (00_scope.md R9), and the pseudo-operations (R80). Texts are lists of
characters. Nothing here takes part in a step.
-/
namespace Sys2Proof.Machine

/-- A text, character by character. -/
abbrev Text := List Char

/-- The hex digit of a 4-bit value; the assembler's listings use lower case (R9). -/
def hexDigit (v : BitVec 4) : Char :=
  ['0', '1', '2', '3', '4', '5', '6', '7', '8', '9', 'a', 'b', 'c', 'd', 'e', 'f'].getD v.toNat '0'

/-- The value of a hex digit; either case is read (log 15). -/
def hexValue (c : Char) : Option (BitVec 4) :=
  let n := c.toNat
  if 48 ≤ n ∧ n ≤ 57 then some (BitVec.ofNat 4 (n - 48))
  else if 97 ≤ n ∧ n ≤ 102 then some (BitVec.ofNat 4 (n - 87))
  else if 65 ≤ n ∧ n ≤ 70 then some (BitVec.ofNat 4 (n - 55))
  else none

/-- The two digits of a byte, the high digit first (R9). -/
def byteText (b : Byte) : Text := [hexDigit (b.extractLsb' 4 4), hexDigit (b.extractLsb' 0 4)]

/-- R9: a lane written as a byte string, byte 0 first. -/
def laneText (x : Lane) : Text := (List.range 16).flatMap fun i => byteText (laneByte x i)

/-- R9: a block written as a byte string: 64 digits, the low lane's 32 first (R53). -/
def blockText (b : Block) : Text := laneText (lowLane b) ++ laneText (highLane b)

/-- The bytes a text of hex digits writes, two digits each. -/
def readBytes : Text → Option (List Byte)
  | [] => some []
  | [_] => none
  | hi :: lo :: rest =>
    match hexValue hi, hexValue lo, readBytes rest with
    | some h, some l, some bs => some ((h ++ l : Byte) :: bs)
    | _, _, _ => none

/-- R9: the lane a text of exactly 32 hex digits writes, the byte string of the rule in one unbroken word (DESIGN CHOICE, log 15: no groups, no `0x` integer). -/
def readLane (t : Text) : Option Lane :=
  match readBytes t with
  | some bs => if bs.length = 16 then some (laneOfBytes fun i => bs.getD i 0#8) else none
  | none => none

/-- R9: the block a text of exactly 64 hex digits writes, in one unbroken word (DESIGN CHOICE, log 15). -/
def readBlock (t : Text) : Option Block :=
  match readLane (t.take 32), readLane (t.drop 32) with
  | some lo, some hi => some (combine lo hi)
  | _, _ => none

/-- The mnemonics of R72, and those R79 and R80 add. -/
def textStatus : Text := ['S', 'T', 'A', 'T', 'U', 'S']
/-- LOAD_KEYIV (R72). -/
def textLoadKeyIv : Text := ['L', 'O', 'A', 'D', '_', 'K', 'E', 'Y', 'I', 'V']
/-- INIT (R72). -/
def textInit : Text := ['I', 'N', 'I', 'T']
/-- ABSORB_AD (R72). -/
def textAbsorbAd : Text := ['A', 'B', 'S', 'O', 'R', 'B', '_', 'A', 'D']
/-- ENCRYPT (R72). -/
def textEncrypt : Text := ['E', 'N', 'C', 'R', 'Y', 'P', 'T']
/-- DECRYPT (R72). -/
def textDecrypt : Text := ['D', 'E', 'C', 'R', 'Y', 'P', 'T']
/-- FINALIZE (R72). -/
def textFinalize : Text := ['F', 'I', 'N', 'A', 'L', 'I', 'Z', 'E']
/-- `.raw` (R79). -/
def textRaw : Text := ['.', 'r', 'a', 'w']
/-- The pseudo-operation NOP (R80). -/
def textNop : Text := ['N', 'O', 'P']

/-- R79: the line without its comment, cut into words at blanks (DESIGN CHOICE, log 15: the blank is the only separator). -/
def lineWords (line : Text) : List Text :=
  ((line.takeWhile (· != ';')).splitOnP (· == ' ')).filter (· ≠ [])

/-- R79: assemble the words of one line; a word or operand the rule does not give is refused. DESIGN CHOICE (log 15): each operand is ONE word of exactly the digits
the syntax column of R79 counts, though R79 also says "values written as in" R9, where the digits of a value may stand in groups and a `0x` prefix writes an integer;
an operand in groups or with `0x` is refused here. -/
def assembleWords (ws : List Text) : Option Transaction :=
  match ws with
  | [m] =>
    if m = textStatus ∨ m = textNop then some (transaction 0x0#4 0#256)
    else if m = textInit then some (transaction 0x2#4 0#256)
    else if m = textFinalize then some (transaction 0x6#4 0#256)
    else none
  | [m, a] =>
    if m = textAbsorbAd then (readBlock a).map (transaction 0x3#4)
    else if m = textEncrypt then (readBlock a).map (transaction 0x4#4)
    else if m = textDecrypt then (readBlock a).map (transaction 0x5#4)
    else none
  | [m, a, b] =>
    if m = textLoadKeyIv then
      match readLane a, readLane b with
      | some key, some iv => some (transaction 0x1#4 (combine key iv))
      | _, _ => none
    else if m = textRaw then
      match a, readBlock b with
      | [d], some data => (hexValue d).map fun op => transaction op data
      | _, _ => none
    else none
  | _ => none

/-- R79: assemble one line. -/
def assembleLine (line : Text) : Option Transaction := assembleWords (lineWords line)

/-- R79: `.raw <op> <data>`, which writes any transaction. -/
def rawLine (t : Transaction) : Text :=
  textRaw ++ ' ' :: hexDigit (opField t) :: ' ' :: blockText (dataField t)

/-- R79: the line a command is written as: its mnemonic line, or `.raw` where no mnemonic writes it. -/
def sourceLine (i : Instr) : Text :=
  if i.wellFormed then
    match i with
    | .status _ => textStatus
    | .loadKeyIv key iv => textLoadKeyIv ++ ' ' :: (laneText key ++ ' ' :: laneText iv)
    | .init _ => textInit
    | .absorbAd d => textAbsorbAd ++ ' ' :: blockText d
    | .encrypt m => textEncrypt ++ ' ' :: blockText m
    | .decrypt c => textDecrypt ++ ' ' :: blockText c
    | .finalize _ => textFinalize
    | i => rawLine (encode i)
  else rawLine (encode i)

/-- R79: a listing shows `OP` as one hex digit and `DATA` as 64; one blank between the two (DESIGN CHOICE, log 15). -/
def listing (t : Transaction) : Text := hexDigit (opField t) :: ' ' :: blockText (dataField t)

/-- The pseudo-operations of R80. -/
inductive Pseudo where
  | nop
  | encode (key iv : Lane) (ad m : List Block)
  | decode (key iv : Lane) (ad c : List Block)
deriving DecidableEq, Repr

/-- R80: the command sequence a pseudo-operation stands for. -/
def expand : Pseudo → List Instr
  | .nop => [.status 0#256]
  | .encode key iv ad m =>
    [.loadKeyIv key iv, .init 0#256] ++ ad.map Instr.absorbAd ++ m.map Instr.encrypt ++ [.finalize 0#256]
  | .decode key iv ad c =>
    [.loadKeyIv key iv, .init 0#256] ++ ad.map Instr.absorbAd ++ c.map Instr.decrypt ++ [.finalize 0#256]

end Sys2Proof.Machine
end

