-- ==== Sys2Proof/Safety.lean ====
section
/-!
DEFINITION. The terms claims are stated in: what the engine accepts and takes at an edge (20_memory.md R51), the invariant of the machine, what a host that keeps the
handshake does (70_reset_and_hazards.md R235), and a sequence of commands performed one after another (R58).
-/
namespace Sys2Proof.Safety
open Sys2Proof.Machine

/-- R51: a command is accepted at an edge at which `rst` = 0, `cmd_valid` = 1 and `cmd_ready` = 1. -/
def accepts (s : State) : Bool := !(sampledPins s).rst && (sampledPins s).cmdValid && cmdReady s

/-- R51: a response is taken at an edge at which `rst` = 0, `rsp_valid` = 1 and `rsp_ready` = 1. -/
def takes (s : State) : Bool := !(sampledPins s).rst && rspValid s && (sampledPins s).rspReady

/-- The next edge performs command `f` (R33): no reset, no response pending, and no edge left to wait. -/
abbrev Performing (s : State) (f : InFlight) : Prop :=
  (sampledPins s).rst = false ∧ s.rspPending = false ∧ s.inFlight = some f ∧ f.wait = 0

/-- The invariant of the machine: what no step breaks. -/
structure Inv (s : State) : Prop where
  /-- R26: `KEY_VALID = 0` implies `PHASE = IDLE`. -/
  keyless_idle : s.keyValid = false → s.phase = .idle
  /-- R27, R28: in IDLE there is no session, and both counters are 0 (reset and LOAD_KEYIV clear them). -/
  idle_counts : s.phase = .idle → s.adCount = 0#64 ∧ s.msgCount = 0#64
  /-- R27, R28: in AD no message block has been performed. -/
  ad_count : s.phase = .ad → s.msgCount = 0#64
  /-- R236: the engine holds at most one command. -/
  one_command : s.rspPending = true → s.inFlight = none
  /-- R232: nothing is pending or in flight before `cmd_ready` has risen after reset. -/
  ready_first : s.readyWait ≠ 0 → s.rspPending = false ∧ s.inFlight = none
  /-- R232: `cmd_ready` rises within `LAT_RESET`. -/
  ready_bound : s.readyWait ≤ s.params.latReset
  /-- R237: a response appears at most `LAT(op)` edges after the acceptance. -/
  wait_bound : ∀ f, s.inFlight = some f → f.wait < latOf s.params (opField f.command)
  /-- R75: the codes 0x4 to 0xF are never produced. -/
  code_range : s.rspPending = true → s.rspStatus.toNat ≤ 3
  /-- R107: `Z0 != Z1`. -/
  distinct : s.params.Distinct

/-- R235: in the next `k` edges the host holds `cmd_valid`, `cmd_op` and `cmd_data` from one edge to the next until the command is accepted (a reset edge ends the offer). -/
def HostHolds : Nat → State → Prop
  | 0, _ => True
  | k + 1, s =>
    ((sampledPins s).rst = false → (sampledPins s).cmdValid = true → accepts s = false →
      (sampledPins (popEdge s)).cmdValid = true ∧
      (sampledPins (popEdge s)).cmdOp = (sampledPins s).cmdOp ∧
      (sampledPins (popEdge s)).cmdData = (sampledPins s).cmdData) ∧
    ∀ t, step s = .next t → HostHolds k t

/-- A response: `rsp_status` and `rsp_data` (R75). -/
abbrev Response := BitVec 4 × Block

/-- R58: the commands `is` performed one after another from `s` leave `t`, with the responses `rs` in the same order. -/
def Performs (s : State) (is : List Instr) (rs : List Response) (t : State) : Prop :=
  match is with
  | [] => rs = [] ∧ t = s
  | i :: is => ∃ u rs', exec i s = .next u ∧ rs = (u.rspStatus, u.rspData) :: rs' ∧ Performs u is rs' t

end Sys2Proof.Safety
end

