-- ==== Sys2Proof/Certificates/Slice0/Obligations.lean ====
section
/-!
DEFINITION. The statements about the model, one `def Obligations.<Name> : Prop` each, and the transcriptions of the spec's formulas they are stated in.
-/
namespace Sys2Proof.Claims
open Sys2Proof.Machine Sys2Proof.Safety

/-- R108 for N = 3, lane by lane. -/
def advanced3 (z0 m : Lane) (t : Vector Lane 3) : Vector Lane 3 :=
  #v[aesRound t[2] t[0] ^^^ m, aesRound t[0] z0, t[1]]

/-- R108 for N = 4, lane by lane. -/
def advanced4 (z0 m : Lane) (t : Vector Lane 4) : Vector Lane 4 :=
  #v[aesRound t[3] t[0] ^^^ m, aesRound t[0] z0, t[1], t[2]]

/-- R108 for N = 6, lane by lane. -/
def advanced6 (z0 m : Lane) (t : Vector Lane 6) : Vector Lane 6 :=
  #v[aesRound t[5] t[0] ^^^ m, aesRound t[0] z0, t[1], t[2], t[3], t[4]]

/-- R110, lane by lane. -/
def updated (p : Params) (m0 m1 m2 : Lane) (l : Lanes) : Lanes :=
  ⟨advanced3 p.z0 m0 l.t3, advanced4 p.z0 m1 l.t4, advanced6 p.z0 m2 l.t6⟩

/-- R160: `c_lo`, from the lanes `l`. -/
def ksLo (l : Lanes) : Lane := l.t3[0] ^^^ l.t3[2] ^^^ l.t4[1] ^^^ (l.t6[3] &&& l.t4[3])

/-- R160: `c_hi`, from the lanes `l`. -/
def ksHi (l : Lanes) : Lane := l.t6[0] ^^^ l.t4[2] ^^^ l.t3[1] ^^^ (l.t6[5] &&& l.t3[2])

/-- The lanes as one list: T3, T4, T6, lane 0 first. -/
def allLanes (l : Lanes) : List Lane := l.t3.toList ++ l.t4.toList ++ l.t6.toList

/-- R103: multiplication in GF(2^8) modulo x^8 + x^4 + x^3 + x + 1, by shifting and adding. -/
def gfMul (x y : Byte) : Byte :=
  (List.range 8).foldl (fun acc i => if y.getLsbD i then acc ^^^ Nat.iterate mul2 i x else acc) 0#8

/-- R103: the affine map `A`. -/
def affine (b : Byte) : Byte :=
  b ^^^ b.rotateLeft 1 ^^^ b.rotateLeft 2 ^^^ b.rotateLeft 3 ^^^ b.rotateLeft 4 ^^^ 0x63#8

/-- R11: the state after `respond(OK, data)`. -/
def answered (data : Block) (s : State) : State :=
  { s with rspPending := true, rspStatus := 0x0#4, rspData := data }

/-- R204: the state after the error response with code `code`. -/
def refusedWith (code : BitVec 4) (s : State) : State :=
  { s with rspPending := true, rspStatus := code, rspData := 0#256 }

/-- R203: the phase a command leaves, or none where the table says SEQ_ERROR; the reserved opcodes are not in the table. -/
def sessionTable : Instr → Phase → Option Phase
  | .status _, ph => some ph
  | .loadKeyIv _ _, _ => some .idle
  | .init _, _ => some .ad
  | .absorbAd _, .ad => some .ad
  | .encrypt _, .ad => some .enc
  | .encrypt _, .enc => some .enc
  | .decrypt _, .ad => some .dec
  | .decrypt _, .dec => some .dec
  | .finalize _, .ad => some .done
  | .finalize _, .enc => some .done
  | .finalize _, .dec => some .done
  | _, _ => none

/-- R78, R201, R202, R203, R205: the status code of a command's response. -/
def codeOf (i : Instr) (s : State) : BitVec 4 :=
  if 0x7 ≤ i.opcode.toNat then 0x1#4
  else if 0x2 ≤ i.opcode.toNat ∧ i.opcode.toNat ≤ 0x6 ∧ s.keyValid = false then 0x2#4
  else if sessionTable i s.phase = none then 0x3#4
  else 0x0#4

/-- No reset is sampled at the next `k` edges. -/
def NoReset (k : Nat) (s : State) : Prop := ∀ p ∈ s.inputs.take k, p.rst = false

/-- The responses of commands that answer OK with the given data. -/
def okAll (bs : List Block) : List Response := bs.map fun b => (0x0#4, b)

end Sys2Proof.Claims

open Sys2Proof Sys2Proof.Machine Sys2Proof.Safety Sys2Proof.Claims

/-! ### Encoding (30_encoding.md) -/

/-- R70 to R73: every value of `OP` selects its row, whatever `DATA` holds, with the operand fields of R71. -/
def Obligations.EveryOpcodeDecodesToItsRow : Prop :=
  ∀ data : Block,
    decode (0x0#4 ++ data) = .status data ∧
    decode (0x1#4 ++ data) = .loadKeyIv (data.extractLsb' 0 128) (data.extractLsb' 128 128) ∧
    decode (0x2#4 ++ data) = .init data ∧
    decode (0x3#4 ++ data) = .absorbAd data ∧
    decode (0x4#4 ++ data) = .encrypt data ∧
    decode (0x5#4 ++ data) = .decrypt data ∧
    decode (0x6#4 ++ data) = .finalize data ∧
    decode (0x7#4 ++ data) = .reserved7 data ∧
    decode (0x8#4 ++ data) = .reserved8 data ∧
    decode (0x9#4 ++ data) = .reserved9 data ∧
    decode (0xA#4 ++ data) = .reservedA data ∧
    decode (0xB#4 ++ data) = .reservedB data ∧
    decode (0xC#4 ++ data) = .reservedC data ∧
    decode (0xD#4 ++ data) = .reservedD data ∧
    decode (0xE#4 ++ data) = .reservedE data ∧
    decode (0xF#4 ++ data) = .reservedF data

/-- R70 to R72 on transactions written out digit by digit: `OP` is the first of the 65 hex digits, then `DATA`, most significant digit first. The LOAD_KEYIV word is that of
`LOAD_KEYIV 00..0f f0..ff` (program P3 step 1), the ENCRYPT word that of `ENCRYPT M0` (P3 step 4). -/
def Obligations.WrittenWordsDecode : Prop :=
  decode 0x00000000000000000000000000000000000000000000000000000000000000000#260 = .status 0#256 ∧
  decode 0x1fffefdfcfbfaf9f8f7f6f5f4f3f2f1f00f0e0d0c0b0a09080706050403020100#260 =
    .loadKeyIv 0x0f0e0d0c0b0a09080706050403020100#128 0xfffefdfcfbfaf9f8f7f6f5f4f3f2f1f0#128 ∧
  decode 0x43f3e3d3c3b3a393837363534333231302f2e2d2c2b2a29282726252423222120#260 =
    .encrypt 0x3f3e3d3c3b3a393837363534333231302f2e2d2c2b2a29282726252423222120#256 ∧
  decode 0x60000000000000000000000000000000000000000000000000000000000000000#260 = .finalize 0#256 ∧
  decode 0xf0000000000000000000000000000000000000000000000000000000000000001#260 = .reservedF 1#256

/-- R70 to R74: decoding the encoding of any command gives it back, with every operand at every value. -/
def Obligations.DecodeOfEncode : Prop := ∀ i : Instr, decode (encode i) = i

/-- R74: every transaction is the encoding of the command it decodes to: no bit of a transaction is dropped. -/
def Obligations.EncodeOfDecode : Prop := ∀ t : Transaction, encode (decode t) = t

/-- R9, R53: a lane read back from its 32 hex digits. -/
def Obligations.LaneTextReadsBack : Prop := ∀ x : Lane, readLane (laneText x) = some x

/-- R79: the line the assembler writes for any command, mnemonic line or `.raw`, assembles to that command's transaction. -/
def Obligations.SourceLineAssembles : Prop := ∀ i : Instr, assembleLine (sourceLine i) = some (encode i)

/-! ### Datapath (40_datapath.md) -/

/-- R103: the SBOX table is the affine map of the inverse in GF(2^8), `inv(0)` = 0. -/
def Obligations.SboxIsAffineOfInverse : Prop :=
  ∀ x : Byte, ∃ y : Byte, (x = 0#8 ∧ y = 0#8 ∨ x ≠ 0#8 ∧ gfMul x y = 0x01#8) ∧ sbox x = affine y

/-- R102, R104, R105, R106: every byte of the round, from the substituted bytes of the shifted rows of its column. -/
def Obligations.RoundByBytes : Prop :=
  ∀ (a k : Lane) (c : Nat), c < 4 →
    let b := fun r => sbox (laneByte a (r + 4 * ((c + r) % 4)))
    laneByte (aesRound a k) (4 * c) = mul2 (b 0) ^^^ mul3 (b 1) ^^^ b 2 ^^^ b 3 ^^^ laneByte k (4 * c) ∧
    laneByte (aesRound a k) (4 * c + 1) = b 0 ^^^ mul2 (b 1) ^^^ mul3 (b 2) ^^^ b 3 ^^^ laneByte k (4 * c + 1) ∧
    laneByte (aesRound a k) (4 * c + 2) = b 0 ^^^ b 1 ^^^ mul2 (b 2) ^^^ mul3 (b 3) ^^^ laneByte k (4 * c + 2) ∧
    laneByte (aesRound a k) (4 * c + 3) = mul3 (b 0) ^^^ b 1 ^^^ b 2 ^^^ mul2 (b 3) ^^^ laneByte k (4 * c + 3)

/-- R108, R110: the three advances of an update, lane by lane. -/
def Obligations.UpdateLaneByLane : Prop :=
  ∀ (p : Params) (m0 m1 m2 : Lane) (l : Lanes), update p m0 m1 m2 l = updated p m0 m1 m2 l

/-- R109: `advance(T, m)` is `advance(T, 0)` with `m` XORed into lane 0 and no other lane changed, at every capacity. -/
def Obligations.AdvanceInjectsOnlyAtHead : Prop :=
  ∀ (n : Nat) (z0 m : Lane) (t : Vector Lane (n + 2)),
    advance z0 t m = (advance z0 t 0#128).set 0 ((advance z0 t 0#128)[0] ^^^ m)

/-- R112: the two halves of `lengthWord`, its byte string, and its XOR law. -/
def Obligations.LengthWordPacking : Prop :=
  ∀ a b : Count,
    (lengthWord a).extractLsb' 0 64 = a ∧ (lengthWord a).extractLsb' 64 64 = 0#64 ∧
    (∀ i, i < 8 → laneByte (lengthWord a) i = a.extractLsb' (8 * i) 8) ∧
    (∀ i, 8 ≤ i → i < 16 → laneByte (lengthWord a) i = 0#8) ∧
    lengthWord a ^^^ lengthWord b = lengthWord (a ^^^ b)

/-- R114: `split` takes the halves, and `combine` and `split` undo each other. -/
def Obligations.SplitAndCombine : Prop :=
  ∀ (b : Block) (lo hi : Lane),
    split b = (b.extractLsb' 0 128, b.extractLsb' 128 128) ∧
    combine (split b).1 (split b).2 = b ∧ split (combine lo hi) = (lo, hi)

/-! ### The commands (41_session.md to 44_finalize.md, 60_exceptions.md): the whole next state, so what is not named is unchanged -/

/-- R130, R77: STATUS answers the STATUS word in every state and writes nothing but its response. -/
def Obligations.StatusAnswersTheWord : Prop :=
  ∀ (d : Block) (s : State), ∃ w : Block,
    exec (.status d) s = .next (answered w s) ∧
    w.extractLsb' 0 3 =
      (match s.phase with | .idle => 0#3 | .ad => 1#3 | .enc => 2#3 | .dec => 3#3 | .done => 4#3) ∧
    w.extractLsb' 3 5 = 0#5 ∧
    w.extractLsb' 8 1 = (if s.keyValid then 1#1 else 0#1) ∧
    w.extractLsb' 9 55 = 0#55 ∧
    w.extractLsb' 64 64 = s.adCount ∧
    w.extractLsb' 128 64 = s.msgCount ∧
    w.extractLsb' 192 64 = 0#64

/-- R131: LOAD_KEYIV in every state. -/
def Obligations.LoadKeyIvResult : Prop :=
  ∀ (key iv : Lane) (s : State),
    exec (.loadKeyIv key iv) s =
      .next (answered 0#256
        { s with key := key, iv := iv, keyValid := true, phase := .idle, adCount := 0#64, msgCount := 0#64 })

/-- R132: INIT loads and stirs the lanes in every phase once a key is loaded, and answers NO_KEY without one. -/
def Obligations.InitResult : Prop :=
  ∀ (d : Block) (s : State),
    (s.keyValid = true →
      exec (.init d) s =
        .next (answered 0#256
          { s with
            lanes := Nat.iterate (updated s.params s.params.z0 s.params.z1 s.params.z0) 15
              ⟨#v[s.key, s.key, s.iv], #v[s.key, s.key, s.iv, s.params.z0],
               #v[s.key, s.key, s.iv, s.params.z1, 0#128, 0#128]⟩
            phase := .ad, adCount := 0#64, msgCount := 0#64 })) ∧
    (s.keyValid = false → exec (.init d) s = .next (refusedWith 0x2#4 s))

/-- R150: ABSORB_AD, its effect in AD and its errors. -/
def Obligations.AbsorbAdResult : Prop :=
  ∀ (d : Block) (s : State),
    let lo := d.extractLsb' 0 128
    let hi := d.extractLsb' 128 128
    (s.keyValid = true → s.phase = .ad →
      exec (.absorbAd d) s =
        .next (answered 0#256
          { s with lanes := updated s.params lo hi (lo ^^^ hi) s.lanes, adCount := s.adCount + 1#64 })) ∧
    (s.keyValid = false → exec (.absorbAd d) s = .next (refusedWith 0x2#4 s)) ∧
    (s.keyValid = true → s.phase ≠ .ad → exec (.absorbAd d) s = .next (refusedWith 0x3#4 s))

/-- R160: ENCRYPT absorbs first and answers the keystream lanes of the new state; its effect in AD and ENC, and its errors. -/
def Obligations.EncryptResult : Prop :=
  ∀ (m : Block) (s : State),
    let lo := m.extractLsb' 0 128
    let hi := m.extractLsb' 128 128
    let l := updated s.params lo hi (lo ^^^ hi) s.lanes
    (s.keyValid = true → s.phase = .ad ∨ s.phase = .enc →
      exec (.encrypt m) s =
        .next (answered (ksHi l ++ ksLo l) { s with lanes := l, phase := .enc, msgCount := s.msgCount + 1#64 })) ∧
    (s.keyValid = false → exec (.encrypt m) s = .next (refusedWith 0x2#4 s)) ∧
    (s.keyValid = true → s.phase ≠ .ad ∧ s.phase ≠ .enc → exec (.encrypt m) s = .next (refusedWith 0x3#4 s))

/-- R161: DECRYPT shifts, reads the keystream and patches the three heads; its effect in AD and DEC, and its errors. -/
def Obligations.DecryptResult : Prop :=
  ∀ (c : Block) (s : State),
    let l := updated s.params 0#128 0#128 0#128 s.lanes
    let mLo := c.extractLsb' 0 128 ^^^ ksLo l
    let mHi := c.extractLsb' 128 128 ^^^ ksHi l ^^^ mLo
    (s.keyValid = true → s.phase = .ad ∨ s.phase = .dec →
      exec (.decrypt c) s =
        .next (answered (mHi ++ mLo)
          { s with
            lanes :=
              ⟨#v[l.t3[0] ^^^ mLo, l.t3[1], l.t3[2]], #v[l.t4[0] ^^^ mHi, l.t4[1], l.t4[2], l.t4[3]],
               #v[l.t6[0] ^^^ (mLo ^^^ mHi), l.t6[1], l.t6[2], l.t6[3], l.t6[4], l.t6[5]]⟩
            phase := .dec, msgCount := s.msgCount + 1#64 })) ∧
    (s.keyValid = false → exec (.decrypt c) s = .next (refusedWith 0x2#4 s)) ∧
    (s.keyValid = true → s.phase ≠ .ad ∧ s.phase ≠ .dec → exec (.decrypt c) s = .next (refusedWith 0x3#4 s))

/-- R180, R115: FINALIZE binds the counts, stirs 20 times and answers the XOR of all 13 lanes in the low lane; its effect in AD, ENC and DEC, and its errors. -/
def Obligations.FinalizeResult : Prop :=
  ∀ (d : Block) (s : State),
    let l := Nat.iterate (updated s.params s.params.z1 s.params.z0 s.params.z1) 20
      (updated s.params (0#64 ++ s.adCount) (0#64 ++ s.msgCount) (0#64 ++ (s.adCount ^^^ s.msgCount)) s.lanes)
    (s.keyValid = true → s.phase = .ad ∨ s.phase = .enc ∨ s.phase = .dec →
      exec (.finalize d) s =
        .next (answered (0#128 ++ (allLanes l).foldr (fun x y => x ^^^ y) 0#128) { s with lanes := l, phase := .done })) ∧
    (s.keyValid = false → exec (.finalize d) s = .next (refusedWith 0x2#4 s)) ∧
    (s.keyValid = true → s.phase = .idle ∨ s.phase = .done → exec (.finalize d) s = .next (refusedWith 0x3#4 s))

/-- R201: each of the nine reserved opcodes answers ILLEGAL_CMD with data 0 and changes nothing else, in every state. -/
def Obligations.ReservedResult : Prop :=
  ∀ (d : Block) (s : State),
    exec (.reserved7 d) s = .next (refusedWith 0x1#4 s) ∧
    exec (.reserved8 d) s = .next (refusedWith 0x1#4 s) ∧
    exec (.reserved9 d) s = .next (refusedWith 0x1#4 s) ∧
    exec (.reservedA d) s = .next (refusedWith 0x1#4 s) ∧
    exec (.reservedB d) s = .next (refusedWith 0x1#4 s) ∧
    exec (.reservedC d) s = .next (refusedWith 0x1#4 s) ∧
    exec (.reservedD d) s = .next (refusedWith 0x1#4 s) ∧
    exec (.reservedE d) s = .next (refusedWith 0x1#4 s) ∧
    exec (.reservedF d) s = .next (refusedWith 0x1#4 s)

/-! ### Rules over all commands -/

/-- R200, R201, R202, R203, R205: every command, in every state, ends in exactly one response, with the first code that applies; so no code above 3 is produced (R75). -/
def Obligations.StatusCodeByPriority : Prop :=
  ∀ (i : Instr) (s : State), ∃ t, exec i s = .next t ∧ t.rspPending = true ∧ t.rspStatus = codeOf i s

/-- R203: a command that is not reserved leaves the phase the table gives, or answers SEQ_ERROR and changes nothing else; with no key loaded, INIT to FINALIZE answer NO_KEY before the
table is consulted. -/
def Obligations.SessionTable : Prop :=
  ∀ (i : Instr) (s : State), i.opcode.toNat < 7 →
    ∃ t, exec i s = .next t ∧
      if s.keyValid = false ∧ 0x2 ≤ i.opcode.toNat then t = refusedWith 0x2#4 s
      else match sessionTable i s.phase with
        | some ph => t.rspStatus = 0x0#4 ∧ t.phase = ph
        | none => t = refusedWith 0x3#4 s

/-- R204: an error response writes no state element. -/
def Obligations.ErrorWritesNoState : Prop :=
  ∀ (i : Instr) (s t : State), exec i s = .next t → t.rspStatus ≠ 0x0#4 → t = refusedWith t.rspStatus s

/-- R71, I15: the `DATA` of STATUS, INIT and FINALIZE has no effect; R73, R201, R204: nor has that of the reserved opcodes, which answer ILLEGAL_CMD "whatever `DATA` holds"
with `RDATA` 0 and write no state. -/
def Obligations.IgnoredDataHasNoEffect : Prop :=
  ∀ (op : Opcode) (d d' : Block) (s : State), (op = 0x0#4 ∨ op = 0x2#4 ∨ 0x6 ≤ op.toNat) →
    exec (decode (op ++ d)) s = exec (decode (op ++ d')) s

/-- R24, R25: no command but LOAD_KEYIV writes `KEY`, `IV` or `KEY_VALID`. -/
def Obligations.OnlyLoadWritesKey : Prop :=
  ∀ (i : Instr) (s t : State), exec i s = .next t → (∀ key iv, i ≠ .loadKeyIv key iv) →
    t.key = s.key ∧ t.iv = s.iv ∧ t.keyValid = s.keyValid

/-- R22: the lanes are written only by INIT, ABSORB_AD, ENCRYPT, DECRYPT and FINALIZE, and only when they answer OK. -/
def Obligations.OnlySessionCommandsWriteLanes : Prop :=
  ∀ (i : Instr) (s t : State), exec i s = .next t → t.lanes ≠ s.lanes →
    t.rspStatus = 0x0#4 ∧ 0x2 ≤ i.opcode.toNat ∧ i.opcode.toNat ≤ 0x6

/-- R28: what each command that answers OK does to the two counters, modulo 2^64. -/
def Obligations.CounterRules : Prop :=
  ∀ (i : Instr) (s t : State), exec i s = .next t → t.rspStatus = 0x0#4 →
    (t.adCount.toNat, t.msgCount.toNat) =
      match i with
      | .loadKeyIv _ _ => (0, 0)
      | .init _ => (0, 0)
      | .absorbAd _ => ((s.adCount.toNat + 1) % 2 ^ 64, s.msgCount.toNat)
      | .encrypt _ => (s.adCount.toNat, (s.msgCount.toNat + 1) % 2 ^ 64)
      | .decrypt _ => (s.adCount.toNat, (s.msgCount.toNat + 1) % 2 ^ 64)
      | _ => (s.adCount.toNat, s.msgCount.toNat)

/-- No command writes the parameters (of `Z0` and `Z1` this is R107; the latency bounds stand in the same record by the model's choice, log 8, log 9), and none writes the model's own
fields: `inFlight` (log 7: the edge that performs a command has cleared it before `exec` runs), `readyWait` (log 9), `inputs` (log 6), `delays` and `draws` (log 8, log 9). -/
def Obligations.CommandsLeaveTheRest : Prop :=
  ∀ (i : Instr) (s t : State), exec i s = .next t →
    t.params = s.params ∧ t.inFlight = s.inFlight ∧ t.readyWait = s.readyWait ∧ t.inputs = s.inputs ∧
      t.delays = s.delays ∧ t.draws = s.draws

/-- R56: LOAD_KEYIV with the same data and INIT, performed twice in a row, leave the state they leave performed once; STATUS changes nothing a STATUS sees. -/
def Obligations.RepeatingIsPerformingOnce : Prop :=
  ∀ (d d' : Block) (key iv : Lane) (s t : State),
    (exec (.loadKeyIv key iv) s = .next t → exec (.loadKeyIv key iv) t = .next t) ∧
    (exec (.init d) s = .next t → exec (.init d') t = .next t) ∧
    (exec (.status d) s = .next t → exec (.status d') t = .next t)

/-! ### The cipher's laws -/

/-- R160 (derived there): ENCRYPT's answer in closed form, from the state shifted without absorbing. -/
def Obligations.EncryptClosedForm : Prop :=
  ∀ (m : Block) (s t : State), exec (.encrypt m) s = .next t → t.rspStatus = 0x0#4 →
    let l0 := updated s.params 0#128 0#128 0#128 s.lanes
    t.rspData.extractLsb' 0 128 = ksLo l0 ^^^ m.extractLsb' 0 128 ∧
    t.rspData.extractLsb' 128 128 = ksHi l0 ^^^ m.extractLsb' 0 128 ^^^ m.extractLsb' 128 128

/-- R161 (derived there): after DECRYPT the lanes are those absorbing the recovered block gives from the same start. -/
def Obligations.DecryptAbsorbsItsAnswer : Prop :=
  ∀ (c : Block) (s t : State), exec (.decrypt c) s = .next t → t.rspStatus = 0x0#4 →
    let lo := t.rspData.extractLsb' 0 128
    let hi := t.rspData.extractLsb' 128 128
    t.lanes = updated s.params lo hi (lo ^^^ hi) s.lanes

/-- R162: DECRYPT of what ENCRYPT answered, from any state with the same lanes and constants in which it is legal, answers the message block and leaves the same lanes; both add 1
to `MSG_COUNT`. -/
def Obligations.EncryptThenDecrypt : Prop :=
  ∀ (m : Block) (s t s' : State), exec (.encrypt m) s = .next t → t.rspStatus = 0x0#4 →
    s'.params = s.params → s'.lanes = s.lanes → s'.keyValid = true → (s'.phase = .ad ∨ s'.phase = .dec) →
    ∃ t', exec (.decrypt t.rspData) s' = .next t' ∧ t'.rspStatus = 0x0#4 ∧ t'.rspData = m ∧ t'.lanes = t.lanes ∧
      t.msgCount = s.msgCount + 1#64 ∧ t'.msgCount = s'.msgCount + 1#64

/-- R162, conversely: ENCRYPT of what DECRYPT answered answers the ciphertext block and leaves the same lanes. -/
def Obligations.DecryptThenEncrypt : Prop :=
  ∀ (c : Block) (s t s' : State), exec (.decrypt c) s = .next t → t.rspStatus = 0x0#4 →
    s'.params = s.params → s'.lanes = s.lanes → s'.keyValid = true → (s'.phase = .ad ∨ s'.phase = .enc) →
    ∃ t', exec (.encrypt t.rspData) s' = .next t' ∧ t'.rspStatus = 0x0#4 ∧ t'.rspData = c ∧ t'.lanes = t.lanes

/-- R80, R162, R181: ENCODE from any state answers OK throughout with some ciphertext `cs` and tag; DECODE of `cs` from any state of an instance with the same constants answers OK
throughout with the message blocks and the SAME tag, and leaves the same lanes and session. -/
def Obligations.DecodeUndoesEncode : Prop :=
  ∀ (key iv : Lane) (ad ms : List Block) (s s' : State), s'.params = s.params →
    ∃ (cs : List Block) (tag : Block) (t t' : State),
      cs.length = ms.length ∧
      Performs s (expand (.encode key iv ad ms))
        (okAll ([0#256, 0#256] ++ ad.map (fun _ => 0#256) ++ cs ++ [tag])) t ∧
      Performs s' (expand (.decode key iv ad cs))
        (okAll ([0#256, 0#256] ++ ad.map (fun _ => 0#256) ++ ms ++ [tag])) t' ∧
      t'.lanes = t.lanes ∧ t'.adCount = t.adCount ∧ t'.msgCount = t.msgCount ∧ t.phase = .done ∧ t'.phase = .done

/-- R23, R234: after an INIT, the responses of any command sequence and the session it leaves depend only on `KEY`, `IV`, the constants and the commands: no hidden session state. -/
def Obligations.NoHiddenSessionState : Prop :=
  ∀ (d : Block) (is : List Instr) (rs rs' : List Response) (s s' t t' : State),
    s'.params = s.params → s'.key = s.key → s'.iv = s.iv → s.keyValid = true → s'.keyValid = true →
    Performs s (.init d :: is) rs t → Performs s' (.init d :: is) rs' t' →
    rs' = rs ∧ t'.lanes = t.lanes ∧ t'.phase = t.phase ∧ t'.adCount = t.adCount ∧ t'.msgCount = t.msgCount ∧
      t'.key = t.key ∧ t'.iv = t.iv ∧ t'.keyValid = t.keyValid

/-! ### What cannot be read -/

/-- R35: while `KEY_VALID` = 0 no command reads `KEY`, `IV` or a lane: two states that differ only there answer alike, and still differ at most there. -/
def Obligations.KeylessReadsNothing : Prop :=
  ∀ (i : Instr) (key iv : Lane) (l : Lanes) (s t t' : State), s.keyValid = false →
    exec i s = .next t → exec i { s with key := key, iv := iv, lanes := l } = .next t' →
    t' = { t with key := t'.key, iv := t'.iv, lanes := t'.lanes } ∧
      (t.keyValid = true → t'.key = t.key ∧ t'.iv = t.iv)

/-- R35, I22: in IDLE and DONE no command reads a lane; after an INIT the lanes no longer depend on what they were. -/
def Obligations.NoSessionReadsNoLane : Prop :=
  ∀ (i : Instr) (l : Lanes) (s t t' : State), (s.phase = .idle ∨ s.phase = .done) →
    exec i s = .next t → exec i { s with lanes := l } = .next t' →
    t' = { t with lanes := t'.lanes } ∧ (t.phase = .ad → t' = t)

/-- R22, R32, R210: only the keystream of ENCRYPT and DECRYPT and the tag of FINALIZE carry anything of the lanes out, and no response carries `KEY` or `IV` otherwise: of every
other command the response is the same whatever the three hold. -/
def Obligations.OtherResponsesCarryNoSecret : Prop :=
  ∀ (i : Instr) (key iv : Lane) (l : Lanes) (s t t' : State), ¬(0x4 ≤ i.opcode.toNat ∧ i.opcode.toNat ≤ 0x6) →
    exec i s = .next t → exec i { s with key := key, iv := iv, lanes := l } = .next t' →
    t'.rspStatus = t.rspStatus ∧ t'.rspData = t.rspData

/-! ### The machine: one rising edge (10_state.md, 20_memory.md, 70_reset_and_hazards.md) -/

/-- The invariant of Safety.lean holds after reset (its bounds rest on log 1 and log 9: the constants differ, the delay drawn at reset is within `LAT_RESET`). -/
def Obligations.ResetMeetsInvariant : Prop := Inv State.reset

/-- R26, R28, R75, R107, R232, R236, R237: every rising edge keeps the invariant, in every state that meets it, whatever the host drives
(log 7, log 8, log 9 for the form of the busy register and the delays). -/
def Obligations.EveryEdgeKeepsInvariant : Prop := ∀ s t : State, Inv s → step s = .next t → Inv t

/-- The model's reading (log 10, DEDUCED): no rising edge ends in a fault or a refusal. R200 says only that the engine raises no traps, exceptions or interrupts; the hold of a response
the host never takes (R236; I20 calls it stuck) is in the model a run of steps that change nothing but the consumed samples (log 6). -/
def Obligations.NoEdgeStops : Prop := ∀ s : State, ∃ t, step s = .next t

/-- R34, the first five rows of its table: what reset leaves in the elements to which the rule gives a value. -/
def Obligations.ResetValues : Prop :=
  State.reset.phase = .idle ∧ State.reset.keyValid = false ∧ State.reset.adCount = 0#64 ∧
    State.reset.msgCount = 0#64 ∧ State.reset.rspPending = false

/-- R231: an edge with `rst` = 1 resets the engine in every state: a command in flight is abandoned and a pending response dropped. -/
def Obligations.ResetEdgeResets : Prop :=
  ∀ s : State, (sampledPins s).rst = true →
    ∃ t, step s = .next t ∧ t.phase = .idle ∧ t.keyValid = false ∧ t.adCount = 0#64 ∧ t.msgCount = 0#64 ∧
      t.rspPending = false ∧ t.inFlight = none

/-- R232: an edge with `rst` = 1 starts a reset-to-ready delay of at most `LAT_RESET` and keeps the parameters; the edge's sample is consumed (the model's forms, log 6, log 9). -/
def Obligations.ResetStartsReadyDelay : Prop :=
  ∀ s : State, (sampledPins s).rst = true →
    ∃ t, step s = .next t ∧ t.readyWait ≤ s.params.latReset ∧ t.params = s.params ∧ t.inputs = s.inputs.tail

/-- The step runs the decoded command (R33, R55; the edge and the busy register are the model's forms, log 6, log 7): at the edge that performs the command in flight, the step is `exec` of it, with the command no longer in flight and the edge's
sample consumed. -/
def Obligations.StepRunsDecodedCommand : Prop :=
  ∀ (s : State) (f : InFlight), Performing s f →
    step s = exec (decode f.command) { s with inFlight := none, inputs := s.inputs.tail }

/-- A command placed by `withFetchWord` is performed by the very next step (the model's own convention, log 13). -/
def Obligations.PlacedCommandRunsNext : Prop :=
  ∀ (s : State) (nbits w : Nat),
    step (s.withFetchWord nbits w) =
      exec (decode (tableTransaction nbits w))
        { s with rspPending := false, inFlight := none, readyWait := 0 }

/-- R51, R235, R237: where `rst` = 0, `cmd_valid` = 1 and `cmd_ready` = 1 the sampled pair is accepted: it is in flight, to be answered within `LAT(op)` edges, and nothing of the
engine's own state changes (the busy register and the free delay are the model's forms, log 7, log 8). -/
def Obligations.OfferedCommandIsAccepted : Prop :=
  ∀ s : State, (sampledPins s).rst = false → (sampledPins s).cmdValid = true →
    s.rspPending = false → s.inFlight = none → s.readyWait = 0 →
    ∃ w < latOf s.params (sampledPins s).cmdOp, ∃ delays draws,
      step s = .next { s with
        inFlight := some ⟨(sampledPins s).cmdOp ++ (sampledPins s).cmdData, w⟩
        inputs := s.inputs.tail, delays := delays, draws := draws }

/-- R51, R236: a command in flight after an edge was in flight before it, or was accepted at it; and none is accepted while one is in flight or its response pending (log 7). -/
def Obligations.OneCommandInFlight : Prop :=
  ∀ (s t : State) (g : InFlight), Inv s → step s = .next t → t.inFlight = some g →
    (accepts s = false ∧ ∃ f, s.inFlight = some f ∧ g.command = f.command ∧ g.wait + 1 = f.wait) ∨
    (accepts s = true ∧ s.inFlight = none ∧ s.rspPending = false ∧
      g.command = (sampledPins s).cmdOp ++ (sampledPins s).cmdData)

/-- R236: with a response pending and no reset, `rsp_ready` = 0 leaves the whole engine as it is, and `rsp_ready` = 1 clears `RSP_PENDING` and nothing else (`RSP_STATUS` and
`RSP_DATA` then mean nothing, I25). -/
def Obligations.ResponseHeldUntilTaken : Prop :=
  ∀ s : State, (sampledPins s).rst = false → s.rspPending = true →
    ((sampledPins s).rspReady = false → step s = .next { s with inputs := s.inputs.tail }) ∧
    ((sampledPins s).rspReady = true → ∃ st d,
      step s = .next { s with rspPending := false, rspStatus := st, rspData := d, inputs := s.inputs.tail })

/-- R13, R214: at an edge that neither resets nor performs a command, the engine's own state (R20, less the port state) does not change. -/
def Obligations.OnlyPerformingChangesState : Prop :=
  ∀ s t : State, (sampledPins s).rst = false → (∀ f, ¬Performing s f) → step s = .next t →
    t.lanes = s.lanes ∧ t.key = s.key ∧ t.iv = s.iv ∧ t.keyValid = s.keyValid ∧ t.phase = s.phase ∧
      t.adCount = s.adCount ∧ t.msgCount = s.msgCount ∧ t.params = s.params

/-- R33, R51: a response becomes pending only at the edge that performs the command in flight, which is then answered and gone (log 7). -/
def Obligations.ResponsesComeFromCommands : Prop :=
  ∀ s t : State, step s = .next t → s.rspPending = false → t.rspPending = true →
    ∃ f, Performing s f ∧ t.inFlight = none ∧
      t.rspStatus = codeOf (decode f.command) { s with inFlight := none, inputs := s.inputs.tail }

/-- R25: over a rising edge `KEY_VALID` rises only by a LOAD_KEYIV performed at it and falls only by a reset. -/
def Obligations.KeyValidRises : Prop :=
  ∀ s t : State, step s = .next t →
    (s.keyValid = false → t.keyValid = true →
      ∃ f key iv, Performing s f ∧ decode f.command = .loadKeyIv key iv ∧ t.key = key ∧ t.iv = iv) ∧
    (s.keyValid = true → t.keyValid = false → (sampledPins s).rst = true)

/-- R237, R51: a command in flight with `f.wait` edges to go is answered by the run of `f.wait + 1` edges if none of them resets: that run ends in what performing the command
gives (log 6, log 7: the model performs the command at the edge its response appears). -/
def Obligations.ResponseWithinLatency : Prop :=
  ∀ (s : State) (f : InFlight), s.rspPending = false → s.inFlight = some f → NoReset (f.wait + 1) s →
    Host.Core.run core (f.wait + 1) s =
      exec (decode f.command) { s with inFlight := none, inputs := s.inputs.drop (f.wait + 1) }

/-- R236, D34: a host that takes no response and does not reset stalls the engine: for any number of edges nothing but the consumed samples changes (log 6). -/
def Obligations.UntakenResponseStalls : Prop :=
  ∀ (k : Nat) (s : State), s.rspPending = true → NoReset k s → (∀ p ∈ s.inputs.take k, p.rspReady = false) →
    Host.Core.run core k s = .next { s with inputs := s.inputs.drop k }

/-- R232: after reset `cmd_ready` rises once the remaining delay has passed without a reset, and nothing else has changed (log 6, log 9; that
the level does not depend on the `rst` of the coming edge is the model's choice, log 17). -/
def Obligations.ReadyAfterReset : Prop :=
  ∀ s : State, s.rspPending = false → s.inFlight = none → NoReset s.readyWait s →
    ∃ t : State, Host.Core.run core s.readyWait s = .next t ∧ cmdReady t = true ∧
      t = { s with readyWait := 0, inputs := s.inputs.drop s.readyWait }

/-- R235: a command offered while the reset-to-ready delay runs, and held by the host as it must be, is the one accepted at the first edge with `cmd_ready` = 1 (log 6, log 7,
log 9). -/
def Obligations.HeldCommandIsAccepted : Prop :=
  ∀ s : State, s.rspPending = false → s.inFlight = none → (sampledPins s).cmdValid = true →
    NoReset (s.readyWait + 1) s → HostHolds (s.readyWait + 1) s →
    ∃ (t : State) (w : Nat), Host.Core.run core (s.readyWait + 1) s = .next t ∧
      t.inFlight = some ⟨(sampledPins s).cmdOp ++ (sampledPins s).cmdData, w⟩
end

