-- ==== Sys2Proof/Laws/Datapath.lean ====
section
/-!
SUPPORT. The lanes a lane computation leaves, one lemma per function: the byte view of a lane (R8), the register advance (R108), the head patch (R161).
-/
namespace Sys2Proof.Laws
open Sys2Proof.Machine

/-- R8: bit `j` of the lane packed from a list of bytes, byte 0 lowest, is bit `j mod 8` of byte `j / 8`. -/
theorem getLsbD_packBytes (g : Nat → Byte) (l : List Nat) (j : Nat) :
    (l.foldr (fun i (acc : Lane) => (acc <<< 8) ||| (g i).setWidth 128) 0#128).getLsbD j =
      (decide (j < 128) && ((l.map g).getD (j / 8) 0#8).getLsbD (j % 8)) := by
  induction l generalizing j with
  | nil => simp
  | cons i l ih =>
    rw [List.foldr_cons, BitVec.getLsbD_or, BitVec.getLsbD_shiftLeft, BitVec.getLsbD_setWidth, ih (j - 8)]
    by_cases h8 : j < 8
    · have h0 : j / 8 = 0 := by omega
      have hm : j % 8 = j := by omega
      simp [h8, h0, hm]
    · obtain ⟨q, rfl⟩ : ∃ q, j = q + 8 := ⟨j - 8, by omega⟩
      have hd : (q + 8) / 8 = q / 8 + 1 := by omega
      have hm : (q + 8) % 8 = q % 8 := by omega
      by_cases h : q + 8 < 128
      · have : q < 128 := by omega
        simp [hd, hm, h, this]
      · simp [h]

/-- R8: byte `i` of the lane made of the bytes `f` is `f i`. -/
theorem laneByte_laneOfBytes (f : Nat → Byte) (i : Nat) (h : i < 16) : laneByte (laneOfBytes f) i = f i := by
  apply BitVec.eq_of_getLsbD_eq
  intro j hj
  have hd : (8 * i + j) / 8 = i := by omega
  have hm : (8 * i + j) % 8 = j := by omega
  have hlt : 8 * i + j < 128 := by omega
  rw [laneByte, BitVec.getLsbD_extractLsb', laneOfBytes, getLsbD_packBytes, hd, hm]
  simp [hj, hlt, h]

/-- R108: lane 0 after an advance. -/
theorem advance_head {n : Nat} (z0 m : Lane) (t : Vector Lane (n + 2)) :
    (advance z0 t m)[0] = aesRound t[n + 1] t[0] ^^^ m := by
  simp [advance]

/-- R108: lane 1 after an advance. -/
theorem advance_second {n : Nat} (z0 m : Lane) (t : Vector Lane (n + 2)) :
    (advance z0 t m)[1] = aesRound t[0] z0 := by
  simp [advance]

/-- R108: the other lanes shift up by one. -/
theorem advance_shift {n : Nat} (z0 m : Lane) (t : Vector Lane (n + 2)) (i : Nat) (hi : i < n) :
    (advance z0 t m)[i + 2] = t[i + 1] := by
  simp [advance]

/-- R161: the three heads after the patch. -/
theorem patchHeads_heads (mLo mHi : Lane) (l : Lanes) :
    (patchHeads mLo mHi l).t3[0] = l.t3[0] ^^^ mLo ∧ (patchHeads mLo mHi l).t4[0] = l.t4[0] ^^^ mHi ∧
      (patchHeads mLo mHi l).t6[0] = l.t6[0] ^^^ (mLo ^^^ mHi) := by
  simp [patchHeads]

end Sys2Proof.Laws
end

