-- ==== Sys2Proof/Laws/State.lean ====
section
/-!
SUPPORT. What each field of the state holds after each named update: one lemma per field per update, true by unfolding.
-/
-- The lemmas of this file are checked one at a time, so that the one-text compile starts no thread per lemma.
set_option Elab.async false
namespace Sys2Proof.Laws
open Sys2Proof.Machine

variable (s : State)

@[simp] theorem respond_lanes (code : RspCode) (data : Block) : (respond code data s).lanes = s.lanes := rfl
@[simp] theorem respond_key (code : RspCode) (data : Block) : (respond code data s).key = s.key := rfl
@[simp] theorem respond_iv (code : RspCode) (data : Block) : (respond code data s).iv = s.iv := rfl
@[simp] theorem respond_keyValid (code : RspCode) (data : Block) : (respond code data s).keyValid = s.keyValid := rfl
@[simp] theorem respond_phase (code : RspCode) (data : Block) : (respond code data s).phase = s.phase := rfl
@[simp] theorem respond_adCount (code : RspCode) (data : Block) : (respond code data s).adCount = s.adCount := rfl
@[simp] theorem respond_msgCount (code : RspCode) (data : Block) : (respond code data s).msgCount = s.msgCount := rfl
@[simp] theorem respond_rspPending (code : RspCode) (data : Block) : (respond code data s).rspPending = true := rfl
@[simp] theorem respond_rspStatus (code : RspCode) (data : Block) : (respond code data s).rspStatus = rspCodeBits code := rfl
@[simp] theorem respond_rspData (code : RspCode) (data : Block) : (respond code data s).rspData = data := rfl
@[simp] theorem respond_inFlight (code : RspCode) (data : Block) : (respond code data s).inFlight = s.inFlight := rfl
@[simp] theorem respond_readyWait (code : RspCode) (data : Block) : (respond code data s).readyWait = s.readyWait := rfl
@[simp] theorem respond_params (code : RspCode) (data : Block) : (respond code data s).params = s.params := rfl
@[simp] theorem respond_inputs (code : RspCode) (data : Block) : (respond code data s).inputs = s.inputs := rfl
@[simp] theorem respond_delays (code : RspCode) (data : Block) : (respond code data s).delays = s.delays := rfl
@[simp] theorem respond_draws (code : RspCode) (data : Block) : (respond code data s).draws = s.draws := rfl

@[simp] theorem raise_lanes (e : RspCode) : (raise e s).lanes = s.lanes := rfl
@[simp] theorem raise_key (e : RspCode) : (raise e s).key = s.key := rfl
@[simp] theorem raise_iv (e : RspCode) : (raise e s).iv = s.iv := rfl
@[simp] theorem raise_keyValid (e : RspCode) : (raise e s).keyValid = s.keyValid := rfl
@[simp] theorem raise_phase (e : RspCode) : (raise e s).phase = s.phase := rfl
@[simp] theorem raise_adCount (e : RspCode) : (raise e s).adCount = s.adCount := rfl
@[simp] theorem raise_msgCount (e : RspCode) : (raise e s).msgCount = s.msgCount := rfl
@[simp] theorem raise_rspPending (e : RspCode) : (raise e s).rspPending = true := rfl
@[simp] theorem raise_rspStatus (e : RspCode) : (raise e s).rspStatus = rspCodeBits e := rfl
@[simp] theorem raise_rspData (e : RspCode) : (raise e s).rspData = 0#256 := rfl
@[simp] theorem raise_inFlight (e : RspCode) : (raise e s).inFlight = s.inFlight := rfl
@[simp] theorem raise_readyWait (e : RspCode) : (raise e s).readyWait = s.readyWait := rfl
@[simp] theorem raise_params (e : RspCode) : (raise e s).params = s.params := rfl
@[simp] theorem raise_inputs (e : RspCode) : (raise e s).inputs = s.inputs := rfl
@[simp] theorem raise_delays (e : RspCode) : (raise e s).delays = s.delays := rfl
@[simp] theorem raise_draws (e : RspCode) : (raise e s).draws = s.draws := rfl

@[simp] theorem setLanes_lanes (l : Lanes) : (setLanes l s).lanes = l := rfl
@[simp] theorem setLanes_key (l : Lanes) : (setLanes l s).key = s.key := rfl
@[simp] theorem setLanes_iv (l : Lanes) : (setLanes l s).iv = s.iv := rfl
@[simp] theorem setLanes_keyValid (l : Lanes) : (setLanes l s).keyValid = s.keyValid := rfl
@[simp] theorem setLanes_phase (l : Lanes) : (setLanes l s).phase = s.phase := rfl
@[simp] theorem setLanes_adCount (l : Lanes) : (setLanes l s).adCount = s.adCount := rfl
@[simp] theorem setLanes_msgCount (l : Lanes) : (setLanes l s).msgCount = s.msgCount := rfl
@[simp] theorem setLanes_rspPending (l : Lanes) : (setLanes l s).rspPending = s.rspPending := rfl
@[simp] theorem setLanes_rspStatus (l : Lanes) : (setLanes l s).rspStatus = s.rspStatus := rfl
@[simp] theorem setLanes_rspData (l : Lanes) : (setLanes l s).rspData = s.rspData := rfl
@[simp] theorem setLanes_inFlight (l : Lanes) : (setLanes l s).inFlight = s.inFlight := rfl
@[simp] theorem setLanes_readyWait (l : Lanes) : (setLanes l s).readyWait = s.readyWait := rfl
@[simp] theorem setLanes_params (l : Lanes) : (setLanes l s).params = s.params := rfl
@[simp] theorem setLanes_inputs (l : Lanes) : (setLanes l s).inputs = s.inputs := rfl
@[simp] theorem setLanes_delays (l : Lanes) : (setLanes l s).delays = s.delays := rfl
@[simp] theorem setLanes_draws (l : Lanes) : (setLanes l s).draws = s.draws := rfl

@[simp] theorem setKeyIv_lanes (key iv : Lane) : (setKeyIv key iv s).lanes = s.lanes := rfl
@[simp] theorem setKeyIv_key (key iv : Lane) : (setKeyIv key iv s).key = key := rfl
@[simp] theorem setKeyIv_iv (key iv : Lane) : (setKeyIv key iv s).iv = iv := rfl
@[simp] theorem setKeyIv_keyValid (key iv : Lane) : (setKeyIv key iv s).keyValid = true := rfl
@[simp] theorem setKeyIv_phase (key iv : Lane) : (setKeyIv key iv s).phase = s.phase := rfl
@[simp] theorem setKeyIv_adCount (key iv : Lane) : (setKeyIv key iv s).adCount = s.adCount := rfl
@[simp] theorem setKeyIv_msgCount (key iv : Lane) : (setKeyIv key iv s).msgCount = s.msgCount := rfl
@[simp] theorem setKeyIv_rspPending (key iv : Lane) : (setKeyIv key iv s).rspPending = s.rspPending := rfl
@[simp] theorem setKeyIv_rspStatus (key iv : Lane) : (setKeyIv key iv s).rspStatus = s.rspStatus := rfl
@[simp] theorem setKeyIv_rspData (key iv : Lane) : (setKeyIv key iv s).rspData = s.rspData := rfl
@[simp] theorem setKeyIv_inFlight (key iv : Lane) : (setKeyIv key iv s).inFlight = s.inFlight := rfl
@[simp] theorem setKeyIv_readyWait (key iv : Lane) : (setKeyIv key iv s).readyWait = s.readyWait := rfl
@[simp] theorem setKeyIv_params (key iv : Lane) : (setKeyIv key iv s).params = s.params := rfl
@[simp] theorem setKeyIv_inputs (key iv : Lane) : (setKeyIv key iv s).inputs = s.inputs := rfl
@[simp] theorem setKeyIv_delays (key iv : Lane) : (setKeyIv key iv s).delays = s.delays := rfl
@[simp] theorem setKeyIv_draws (key iv : Lane) : (setKeyIv key iv s).draws = s.draws := rfl

@[simp] theorem setPhase_lanes (ph : Phase) : (setPhase ph s).lanes = s.lanes := rfl
@[simp] theorem setPhase_key (ph : Phase) : (setPhase ph s).key = s.key := rfl
@[simp] theorem setPhase_iv (ph : Phase) : (setPhase ph s).iv = s.iv := rfl
@[simp] theorem setPhase_keyValid (ph : Phase) : (setPhase ph s).keyValid = s.keyValid := rfl
@[simp] theorem setPhase_phase (ph : Phase) : (setPhase ph s).phase = ph := rfl
@[simp] theorem setPhase_adCount (ph : Phase) : (setPhase ph s).adCount = s.adCount := rfl
@[simp] theorem setPhase_msgCount (ph : Phase) : (setPhase ph s).msgCount = s.msgCount := rfl
@[simp] theorem setPhase_rspPending (ph : Phase) : (setPhase ph s).rspPending = s.rspPending := rfl
@[simp] theorem setPhase_rspStatus (ph : Phase) : (setPhase ph s).rspStatus = s.rspStatus := rfl
@[simp] theorem setPhase_rspData (ph : Phase) : (setPhase ph s).rspData = s.rspData := rfl
@[simp] theorem setPhase_inFlight (ph : Phase) : (setPhase ph s).inFlight = s.inFlight := rfl
@[simp] theorem setPhase_readyWait (ph : Phase) : (setPhase ph s).readyWait = s.readyWait := rfl
@[simp] theorem setPhase_params (ph : Phase) : (setPhase ph s).params = s.params := rfl
@[simp] theorem setPhase_inputs (ph : Phase) : (setPhase ph s).inputs = s.inputs := rfl
@[simp] theorem setPhase_delays (ph : Phase) : (setPhase ph s).delays = s.delays := rfl
@[simp] theorem setPhase_draws (ph : Phase) : (setPhase ph s).draws = s.draws := rfl

@[simp] theorem clearCounts_lanes : (clearCounts s).lanes = s.lanes := rfl
@[simp] theorem clearCounts_key : (clearCounts s).key = s.key := rfl
@[simp] theorem clearCounts_iv : (clearCounts s).iv = s.iv := rfl
@[simp] theorem clearCounts_keyValid : (clearCounts s).keyValid = s.keyValid := rfl
@[simp] theorem clearCounts_phase : (clearCounts s).phase = s.phase := rfl
@[simp] theorem clearCounts_adCount : (clearCounts s).adCount = 0#64 := rfl
@[simp] theorem clearCounts_msgCount : (clearCounts s).msgCount = 0#64 := rfl
@[simp] theorem clearCounts_rspPending : (clearCounts s).rspPending = s.rspPending := rfl
@[simp] theorem clearCounts_rspStatus : (clearCounts s).rspStatus = s.rspStatus := rfl
@[simp] theorem clearCounts_rspData : (clearCounts s).rspData = s.rspData := rfl
@[simp] theorem clearCounts_inFlight : (clearCounts s).inFlight = s.inFlight := rfl
@[simp] theorem clearCounts_readyWait : (clearCounts s).readyWait = s.readyWait := rfl
@[simp] theorem clearCounts_params : (clearCounts s).params = s.params := rfl
@[simp] theorem clearCounts_inputs : (clearCounts s).inputs = s.inputs := rfl
@[simp] theorem clearCounts_delays : (clearCounts s).delays = s.delays := rfl
@[simp] theorem clearCounts_draws : (clearCounts s).draws = s.draws := rfl

@[simp] theorem countAd_lanes : (countAd s).lanes = s.lanes := rfl
@[simp] theorem countAd_key : (countAd s).key = s.key := rfl
@[simp] theorem countAd_iv : (countAd s).iv = s.iv := rfl
@[simp] theorem countAd_keyValid : (countAd s).keyValid = s.keyValid := rfl
@[simp] theorem countAd_phase : (countAd s).phase = s.phase := rfl
@[simp] theorem countAd_adCount : (countAd s).adCount = s.adCount + 1#64 := rfl
@[simp] theorem countAd_msgCount : (countAd s).msgCount = s.msgCount := rfl
@[simp] theorem countAd_rspPending : (countAd s).rspPending = s.rspPending := rfl
@[simp] theorem countAd_rspStatus : (countAd s).rspStatus = s.rspStatus := rfl
@[simp] theorem countAd_rspData : (countAd s).rspData = s.rspData := rfl
@[simp] theorem countAd_inFlight : (countAd s).inFlight = s.inFlight := rfl
@[simp] theorem countAd_readyWait : (countAd s).readyWait = s.readyWait := rfl
@[simp] theorem countAd_params : (countAd s).params = s.params := rfl
@[simp] theorem countAd_inputs : (countAd s).inputs = s.inputs := rfl
@[simp] theorem countAd_delays : (countAd s).delays = s.delays := rfl
@[simp] theorem countAd_draws : (countAd s).draws = s.draws := rfl

@[simp] theorem countMsg_lanes : (countMsg s).lanes = s.lanes := rfl
@[simp] theorem countMsg_key : (countMsg s).key = s.key := rfl
@[simp] theorem countMsg_iv : (countMsg s).iv = s.iv := rfl
@[simp] theorem countMsg_keyValid : (countMsg s).keyValid = s.keyValid := rfl
@[simp] theorem countMsg_phase : (countMsg s).phase = s.phase := rfl
@[simp] theorem countMsg_adCount : (countMsg s).adCount = s.adCount := rfl
@[simp] theorem countMsg_msgCount : (countMsg s).msgCount = s.msgCount + 1#64 := rfl
@[simp] theorem countMsg_rspPending : (countMsg s).rspPending = s.rspPending := rfl
@[simp] theorem countMsg_rspStatus : (countMsg s).rspStatus = s.rspStatus := rfl
@[simp] theorem countMsg_rspData : (countMsg s).rspData = s.rspData := rfl
@[simp] theorem countMsg_inFlight : (countMsg s).inFlight = s.inFlight := rfl
@[simp] theorem countMsg_readyWait : (countMsg s).readyWait = s.readyWait := rfl
@[simp] theorem countMsg_params : (countMsg s).params = s.params := rfl
@[simp] theorem countMsg_inputs : (countMsg s).inputs = s.inputs := rfl
@[simp] theorem countMsg_delays : (countMsg s).delays = s.delays := rfl
@[simp] theorem countMsg_draws : (countMsg s).draws = s.draws := rfl

@[simp] theorem popEdge_lanes : (popEdge s).lanes = s.lanes := rfl
@[simp] theorem popEdge_key : (popEdge s).key = s.key := rfl
@[simp] theorem popEdge_iv : (popEdge s).iv = s.iv := rfl
@[simp] theorem popEdge_keyValid : (popEdge s).keyValid = s.keyValid := rfl
@[simp] theorem popEdge_phase : (popEdge s).phase = s.phase := rfl
@[simp] theorem popEdge_adCount : (popEdge s).adCount = s.adCount := rfl
@[simp] theorem popEdge_msgCount : (popEdge s).msgCount = s.msgCount := rfl
@[simp] theorem popEdge_rspPending : (popEdge s).rspPending = s.rspPending := rfl
@[simp] theorem popEdge_rspStatus : (popEdge s).rspStatus = s.rspStatus := rfl
@[simp] theorem popEdge_rspData : (popEdge s).rspData = s.rspData := rfl
@[simp] theorem popEdge_inFlight : (popEdge s).inFlight = s.inFlight := rfl
@[simp] theorem popEdge_readyWait : (popEdge s).readyWait = s.readyWait := rfl
@[simp] theorem popEdge_params : (popEdge s).params = s.params := rfl
@[simp] theorem popEdge_inputs : (popEdge s).inputs = s.inputs.tail := rfl
@[simp] theorem popEdge_delays : (popEdge s).delays = s.delays := rfl
@[simp] theorem popEdge_draws : (popEdge s).draws = s.draws := rfl

@[simp] theorem drawn_lanes : (drawn s).lanes = s.lanes := rfl
@[simp] theorem drawn_key : (drawn s).key = s.key := rfl
@[simp] theorem drawn_iv : (drawn s).iv = s.iv := rfl
@[simp] theorem drawn_keyValid : (drawn s).keyValid = s.keyValid := rfl
@[simp] theorem drawn_phase : (drawn s).phase = s.phase := rfl
@[simp] theorem drawn_adCount : (drawn s).adCount = s.adCount := rfl
@[simp] theorem drawn_msgCount : (drawn s).msgCount = s.msgCount := rfl
@[simp] theorem drawn_rspPending : (drawn s).rspPending = s.rspPending := rfl
@[simp] theorem drawn_rspStatus : (drawn s).rspStatus = s.rspStatus := rfl
@[simp] theorem drawn_rspData : (drawn s).rspData = s.rspData := rfl
@[simp] theorem drawn_inFlight : (drawn s).inFlight = s.inFlight := rfl
@[simp] theorem drawn_readyWait : (drawn s).readyWait = s.readyWait := rfl
@[simp] theorem drawn_params : (drawn s).params = s.params := rfl
@[simp] theorem drawn_inputs : (drawn s).inputs = s.inputs := rfl
@[simp] theorem drawn_delays : (drawn s).delays = s.delays.tail := rfl
@[simp] theorem drawn_draws : (drawn s).draws = s.draws + 1 := rfl

@[simp] theorem performEdge_lanes : (performEdge s).lanes = s.lanes := rfl
@[simp] theorem performEdge_key : (performEdge s).key = s.key := rfl
@[simp] theorem performEdge_iv : (performEdge s).iv = s.iv := rfl
@[simp] theorem performEdge_keyValid : (performEdge s).keyValid = s.keyValid := rfl
@[simp] theorem performEdge_phase : (performEdge s).phase = s.phase := rfl
@[simp] theorem performEdge_adCount : (performEdge s).adCount = s.adCount := rfl
@[simp] theorem performEdge_msgCount : (performEdge s).msgCount = s.msgCount := rfl
@[simp] theorem performEdge_rspPending : (performEdge s).rspPending = s.rspPending := rfl
@[simp] theorem performEdge_rspStatus : (performEdge s).rspStatus = s.rspStatus := rfl
@[simp] theorem performEdge_rspData : (performEdge s).rspData = s.rspData := rfl
@[simp] theorem performEdge_inFlight : (performEdge s).inFlight = none := rfl
@[simp] theorem performEdge_readyWait : (performEdge s).readyWait = s.readyWait := rfl
@[simp] theorem performEdge_params : (performEdge s).params = s.params := rfl
@[simp] theorem performEdge_inputs : (performEdge s).inputs = s.inputs.tail := rfl
@[simp] theorem performEdge_delays : (performEdge s).delays = s.delays := rfl
@[simp] theorem performEdge_draws : (performEdge s).draws = s.draws := rfl

@[simp] theorem withCommand_lanes (t : Transaction) : (withCommand s t).lanes = s.lanes := rfl
@[simp] theorem withCommand_key (t : Transaction) : (withCommand s t).key = s.key := rfl
@[simp] theorem withCommand_iv (t : Transaction) : (withCommand s t).iv = s.iv := rfl
@[simp] theorem withCommand_keyValid (t : Transaction) : (withCommand s t).keyValid = s.keyValid := rfl
@[simp] theorem withCommand_phase (t : Transaction) : (withCommand s t).phase = s.phase := rfl
@[simp] theorem withCommand_adCount (t : Transaction) : (withCommand s t).adCount = s.adCount := rfl
@[simp] theorem withCommand_msgCount (t : Transaction) : (withCommand s t).msgCount = s.msgCount := rfl
@[simp] theorem withCommand_rspPending (t : Transaction) : (withCommand s t).rspPending = false := rfl
@[simp] theorem withCommand_rspStatus (t : Transaction) : (withCommand s t).rspStatus = s.rspStatus := rfl
@[simp] theorem withCommand_rspData (t : Transaction) : (withCommand s t).rspData = s.rspData := rfl
@[simp] theorem withCommand_inFlight (t : Transaction) : (withCommand s t).inFlight = some ⟨t, 0⟩ := rfl
@[simp] theorem withCommand_readyWait (t : Transaction) : (withCommand s t).readyWait = 0 := rfl
@[simp] theorem withCommand_params (t : Transaction) : (withCommand s t).params = s.params := rfl
@[simp] theorem withCommand_inputs (t : Transaction) : (withCommand s t).inputs = Pins.quiet :: s.inputs := rfl
@[simp] theorem withCommand_delays (t : Transaction) : (withCommand s t).delays = s.delays := rfl
@[simp] theorem withCommand_draws (t : Transaction) : (withCommand s t).draws = s.draws := rfl

end Sys2Proof.Laws
end

