-- ==== Sys2Proof/Laws/Ops.lean ====
section
/-!
SUPPORT. What the shared operations can do, said once: `perform` (R78), `exec` as `perform` of one body per command, and the step function.
-/
namespace Sys2Proof.Laws
open Sys2Proof.Machine

/-- Every command is answered: `perform` always gives a next state (R200). -/
theorem perform_answers (op : Opcode) (body : State → State) (s : State) :
    ∃ t, perform op body s = .next t := by
  unfold perform
  split
  · exact ⟨_, rfl⟩
  · split
    · exact ⟨_, rfl⟩
    · split <;> exact ⟨_, rfl⟩

/-- R78: the four ways a command can end, in the order of the checks. -/
theorem perform_cases {op : Opcode} {body : State → State} {s t : State} (h : perform op body s = .next t) :
    (isReserved op = true ∧ t = raise .illegalCmd s) ∨
    (isReserved op = false ∧ needsKey op = true ∧ s.keyValid = false ∧ t = raise .noKey s) ∨
    (isReserved op = false ∧ (needsKey op = false ∨ s.keyValid = true) ∧ legal s.phase op = false ∧
      t = raise .seqError s) ∨
    (isReserved op = false ∧ (needsKey op = false ∨ s.keyValid = true) ∧ legal s.phase op = true ∧ t = body s) := by
  unfold perform at h
  cases hr : isReserved op <;> cases hk : needsKey op <;> cases hv : s.keyValid <;> cases hl : legal s.phase op <;>
    simp_all

/-- The rule of a command once the checks of R78 have passed (files 41 to 44); a reserved opcode has none. -/
def bodyOf : Instr → State → State
  | .status _ => fun s => respond .ok (statusWord s) s
  | .loadKeyIv key iv => fun s => respond .ok 0#256 (clearCounts (setPhase .idle (setKeyIv key iv s)))
  | .init _ => fun s =>
      respond .ok 0#256 (setPhase .ad (clearCounts (setLanes (initLanes s.params s.key s.iv) s)))
  | .absorbAd d => fun s => respond .ok 0#256 (countAd (setLanes (absorbBlock s.params d s.lanes) s))
  | .encrypt m => fun s =>
      respond .ok (cipherBlock (absorbBlock s.params m s.lanes))
        (setPhase .enc (countMsg (setLanes (absorbBlock s.params m s.lanes) s)))
  | .decrypt c => fun s =>
      respond .ok (decryptLanes s.params c s.lanes).2
        (setPhase .dec (countMsg (setLanes (decryptLanes s.params c s.lanes).1 s)))
  | .finalize _ => fun s =>
      respond .ok (zext256 (tagOf (finalLanes s.params s.adCount s.msgCount s.lanes)))
        (setPhase .done (setLanes (finalLanes s.params s.adCount s.msgCount s.lanes) s))
  | .reserved7 _ => id
  | .reserved8 _ => id
  | .reserved9 _ => id
  | .reservedA _ => id
  | .reservedB _ => id
  | .reservedC _ => id
  | .reservedD _ => id
  | .reservedE _ => id
  | .reservedF _ => id

/-- R78: performing a command is performing its rule under its opcode. -/
theorem exec_eq_perform (i : Instr) (s : State) : exec i s = perform i.opcode (bodyOf i) s := by
  cases i <;> rfl

/-- What one rising edge can do: reset, leave or take a response, perform the command in flight, let it wait, or stand ready. -/
theorem step_cases {s t : State} (h : step s = .next t) :
    ((sampledPins s).rst = true ∧ t = resetEdge s) ∨
    ((sampledPins s).rst = false ∧ s.rspPending = true ∧ t = responseEdge s) ∨
    (∃ f, (sampledPins s).rst = false ∧ s.rspPending = false ∧ s.inFlight = some f ∧ f.wait = 0 ∧
      exec (decode f.command) (performEdge s) = .next t) ∨
    (∃ f, (sampledPins s).rst = false ∧ s.rspPending = false ∧ s.inFlight = some f ∧ f.wait ≠ 0 ∧ t = waitEdge f s) ∨
    ((sampledPins s).rst = false ∧ s.rspPending = false ∧ s.inFlight = none ∧ t = commandEdge s) := by
  unfold step at h
  cases hr : (sampledPins s).rst <;> cases hp : s.rspPending <;> cases hf : s.inFlight <;> simp_all
  next f => by_cases hw : f.wait = 0 <;> simp_all

/-- R51, R232: what an edge does when the engine holds neither a response nor a command. -/
theorem commandEdge_cases (s : State) :
    (cmdReady s = true ∧ (sampledPins s).cmdValid = true ∧ commandEdge s = acceptEdge s) ∨
    (cmdReady s = true ∧ (sampledPins s).cmdValid = false ∧ commandEdge s = popEdge s) ∨
    (cmdReady s = false ∧ commandEdge s = { popEdge s with readyWait := s.readyWait - 1 }) := by
  unfold commandEdge
  cases hc : cmdReady s <;> cases hv : (sampledPins s).cmdValid <;> simp

end Sys2Proof.Laws
end

