-- ==== Sys2Proof/Laws/PerInstr.lean ====
section
/-!
SUPPORT. For every command: its transaction carries its opcode in bits 259..256 (30_encoding.md R70, R72).
-/
namespace Sys2Proof.Laws.OpcodeField

/-- The encoder writes the command's opcode into the field `OP`. -/
def Statement (i : Instr) : Prop := opField (encode i) = i.opcode

/-- R70: the `OP` field of `OP || DATA` is `OP`. -/
theorem opField_transaction (op : Opcode) (data : Block) : opField (transaction op data) = op := by
  apply BitVec.eq_of_getLsbD_eq
  intro j hj
  have h : (op ++ data : BitVec (4 + 256)).getLsbD (256 + j) = op.getLsbD j := by
    rw [BitVec.getLsbD_append]
    simp
  rw [opField, BitVec.getLsbD_extractLsb', transaction]
  simpa [hj] using h

theorem status (d : Block) : Statement (.status d) := opField_transaction _ _
theorem loadKeyIv (key iv : Lane) : Statement (.loadKeyIv key iv) := opField_transaction _ _
theorem init (d : Block) : Statement (.init d) := opField_transaction _ _
theorem absorbAd (d : Block) : Statement (.absorbAd d) := opField_transaction _ _
theorem encrypt (m : Block) : Statement (.encrypt m) := opField_transaction _ _
theorem decrypt (c : Block) : Statement (.decrypt c) := opField_transaction _ _
theorem finalize (d : Block) : Statement (.finalize d) := opField_transaction _ _
theorem reserved7 (d : Block) : Statement (.reserved7 d) := opField_transaction _ _
theorem reserved8 (d : Block) : Statement (.reserved8 d) := opField_transaction _ _
theorem reserved9 (d : Block) : Statement (.reserved9 d) := opField_transaction _ _
theorem reservedA (d : Block) : Statement (.reservedA d) := opField_transaction _ _
theorem reservedB (d : Block) : Statement (.reservedB d) := opField_transaction _ _
theorem reservedC (d : Block) : Statement (.reservedC d) := opField_transaction _ _
theorem reservedD (d : Block) : Statement (.reservedD d) := opField_transaction _ _
theorem reservedE (d : Block) : Statement (.reservedE d) := opField_transaction _ _
theorem reservedF (d : Block) : Statement (.reservedF d) := opField_transaction _ _

end Sys2Proof.Laws.OpcodeField
end

