-- ==== Sys2Proof/Laws/Step.lean ====
section
/-!
SUPPORT. Runs of the machine: one more edge at the front of a run.
-/
namespace Sys2Proof.Laws
open Sys2Proof.Machine

/-- A run of no edges changes nothing. -/
theorem run_zero (s : State) : Host.Core.run core 0 s = .next s := rfl

/-- On any machine: a run whose first step answers `t` goes on from `t`. -/
theorem core_run_succ (M : Host.Core) {s t : M.State} (k : Nat) (h : M.step s = .next t) :
    M.run (k + 1) s = M.run k t := by
  rw [Host.Core.run, h]

/-- A run whose first edge answers `t` goes on from `t`. -/
theorem run_succ {s t : State} (k : Nat) (h : step s = .next t) :
    Host.Core.run core (k + 1) s = Host.Core.run core k t :=
  core_run_succ core k h

/-- R200: every command answers a next state. -/
theorem exec_answers (i : Instr) (s : State) : ∃ t, exec i s = .next t := by
  rw [exec_eq_perform]
  exact perform_answers ..

end Sys2Proof.Laws
end

