-- ==== Sys2Proof/Tests/Slice0.lean ====
section
/-!
SUPPORT. Tests: words written out from the spec's encodings, the ill-formed terms the check refuses, the vectors of 95_test_vectors.md on single steps, and for every statement with
hypotheses a named witness that meets them. Expected values are the spec's own (the entry is named in each docstring); none is the model's own answer.
-/
-- Theorems of this file are checked one at a time, so that the one-text compile starts no thread per test.
set_option Elab.async false
namespace Sys2Proof.Tests
open Sys2Proof.Machine Sys2Proof.Safety Sys2Proof.Claims

/-- A lane written as a byte string, byte 0 first (R9): the digits of `x` read from the left. -/
def bs (x : BitVec 128) : Lane := laneOfBytes fun i => laneByte x (15 - i)

/-- A block written as two byte strings, the low lane first (R9). -/
def bs2 (lo hi : BitVec 128) : Block := combine (bs lo) (bs hi)

/-- The test instantiation TI-1 of the constants (92_eei_decisions.md D6), with every latency bound 1. -/
def ti1 : Params where
  z0 := bs 0x428a2f98d728ae227137449123ef65cd#128
  z1 := bs 0xb5c0fbcfec4d3b2fe9b5dba58189dbbc#128
  latExtra := Vector.replicate 16 0
  latReset := 0

/-- A state of an instance under TI-1 with the given session fields, nothing pending or in flight. -/
def st (kv : Bool) (ph : Phase) (ad msg : Count) (l : Lanes) : State :=
  { State.afterReset ti1 0 [] [] 0 with keyValid := kv, phase := ph, adCount := ad, msgCount := msg, lanes := l }

/-- The same with all lanes 0 and both counts 0. -/
def st0 (kv : Bool) (ph : Phase) : State := st kv ph 0#64 0#64 Lanes.zero

/-- The next state of an answer, if it is one. -/
def after (r : Result) : Option State :=
  match r with
  | .next s => some s
  | .fault _ => none
  | .refused _ => none

/-- The response an answer leaves. -/
def response (r : Result) : Option Response := (after r).map fun s => (s.rspStatus, s.rspData)

/-- The lanes an answer leaves, T3, T4, T6, lane 0 first. -/
def lanesAfter (r : Result) : Option (List Lane) := (after r).map fun s => allLanes s.lanes

/-- Lanes from the three lists 95_test_vectors.md prints. -/
def lanesOf (t3 : Vector (BitVec 128) 3) (t4 : Vector (BitVec 128) 4) (t6 : Vector (BitVec 128) 6) : Lanes :=
  ⟨t3.map bs, t4.map bs, t6.map bs⟩

/-- `K1` of 95_test_vectors.md. -/
def k1 : Lane := bs 0x000102030405060708090a0b0c0d0e0f#128
/-- `IV1` of 95_test_vectors.md. -/
def iv1 : Lane := bs 0xf0f1f2f3f4f5f6f7f8f9fafbfcfdfeff#128
/-- `AD0` of 95_test_vectors.md. -/
def ad0 : Block := bs2 0x000102030405060708090a0b0c0d0e0f#128 0x101112131415161718191a1b1c1d1e1f#128
/-- `M0` of 95_test_vectors.md. -/
def m0 : Block := bs2 0x202122232425262728292a2b2c2d2e2f#128 0x303132333435363738393a3b3c3d3e3f#128
/-- The first ciphertext block of V33. -/
def c0 : Block := bs2 0xc01f43bc9271aec7ecc44415f5cec2af#128 0x1bbe48ff6e424106913d3560175dd322#128

/-- The lanes INIT leaves with `KEY` = `IV` = 0 (V10). -/
def lanesV10 : Lanes := lanesOf
  #v[0xcaf46163c2b9e65545770106e9704f74#128,
    0xee309647438b351ea1ffbe324baad953#128,
    0x00a491048ce32f0f4692ba14a564b9e9#128]
  #v[0x816620942b1a965188c60e9be1f1485b#128,
    0xa139813c12ec31acdf28a1fbf160da7a#128,
    0x0b216f2b9a89800faaa5287beba1ee6b#128,
    0x8f2c3846198062c261e4934cd449f79f#128]
  #v[0x36936d857a847f839f0e4c1a2636f37a#128,
    0xa12736e9989a8a25a7dff8250748362d#128,
    0xb0ba568516b74c35cc8afccd6818428b#128,
    0x65fe43e6703837272b63a4c44fb4acc7#128,
    0x4b286487478c8203c384c6846094715a#128,
    0x9956e7889c8421ec20eed84765c17d47#128]

/-- The lanes INIT leaves with `K1` and `IV1` (V11). -/
def lanesV11 : Lanes := lanesOf
  #v[0x709bb310155c41137f0b43fd511d02f0#128,
    0x09d35143547950ee4160db056e321310#128,
    0x6ff7e58dba4289cb1e2c02f9b8eb4508#128]
  #v[0x3de8f8e37562b9e6317e7ace85582530#128,
    0x5d862d35a9a7cec717b05c49055cd3b7#128,
    0xb272b331e4d4fc9772184c265ccc906b#128,
    0x20a21c05ef42d212b6316e1c1acdc398#128]
  #v[0x328edbeeb974273acadd74bd27b4fb5c#128,
    0xc2009e81742c53162ab3b01741ef88f1#128,
    0x6b4f3b38b91cb05048ec4ce968f1b2a8#128,
    0xac0d8eb9f6427ad769db7fbd4b6781fa#128,
    0xce19d2060e269e72f6583eac82adc529#128,
    0x1caf82487628e6bd53bdf8d65f5e261a#128]

/-- The lanes after ABSORB_AD AD0 (V20). -/
def lanesV20 : Lanes := lanesOf
  #v[0x08c38bcb42a0f9b675d65a6e03c7edad#128,
    0xa8ed8f38a574771a297c6fcf71dc419a#128,
    0x09d35143547950ee4160db056e321310#128]
  #v[0xf5ea9e0dd32456b43c3ef0afa1cb6d7e#128,
    0x37930189d6188d709569e2ef7d2443af#128,
    0x5d862d35a9a7cec717b05c49055cd3b7#128,
    0xb272b331e4d4fc9772184c265ccc906b#128]
  #v[0xbe0b1c6bf2f8764b9adf793e41e65b06#128,
    0x71717f6904de5f462c124f223d24bda3#128,
    0xc2009e81742c53162ab3b01741ef88f1#128,
    0x6b4f3b38b91cb05048ec4ce968f1b2a8#128,
    0xac0d8eb9f6427ad769db7fbd4b6781fa#128,
    0xce19d2060e269e72f6583eac82adc529#128]

/-- The lanes after ENCRYPT of the zero block (V30). -/
def lanesV30 : Lanes := lanesOf
  #v[0xd5acc21f7f4b6c1fc3459bc6d1213fcd#128,
    0xbe445811e6907bd14d2da17e24727200#128,
    0xee309647438b351ea1ffbe324baad953#128]
  #v[0x2c304bbd11fe15832273bbc76197450a#128,
    0x350687f7997e29887cb93c6919cea955#128,
    0xa139813c12ec31acdf28a1fbf160da7a#128,
    0x0b216f2b9a89800faaa5287beba1ee6b#128]
  #v[0xd1c0e5c99ed43bbe3820f9b329be15ba#128,
    0x5a90524e043f67c4034ecd1dd9740c9e#128,
    0xa12736e9989a8a25a7dff8250748362d#128,
    0xb0ba568516b74c35cc8afccd6818428b#128,
    0x65fe43e6703837272b63a4c44fb4acc7#128,
    0x4b286487478c8203c384c6846094715a#128]

/-- The lanes after ENCRYPT M0 (V33). -/
def lanesV33 : Lanes := lanesOf
  #v[0x988e326b2a83fb68dc7a1179982721db#128,
    0x322d3ca7c413ffcb7234b74aa1e7a3d2#128,
    0xa8ed8f38a574771a297c6fcf71dc419a#128]
  #v[0x257800f87e5e3660bcee98798e00209a#128,
    0xb07cf2ee3da260b31b722aa21d79225f#128,
    0x37930189d6188d709569e2ef7d2443af#128,
    0x5d862d35a9a7cec717b05c49055cd3b7#128]
  #v[0xb60dfbe9d80941af5f380f488ada32c5#128,
    0x1f08065821b24afbbc849f2dc9c0703f#128,
    0x71717f6904de5f462c124f223d24bda3#128,
    0xc2009e81742c53162ab3b01741ef88f1#128,
    0x6b4f3b38b91cb05048ec4ce968f1b2a8#128,
    0xac0d8eb9f6427ad769db7fbd4b6781fa#128]

/-- The lanes after FINALIZE (V40). -/
def lanesV40 : Lanes := lanesOf
  #v[0xcb95130ffe3a8bb27d210c9951b2df23#128,
    0x4550aaa2a21e9904cf0215e66e8b45e4#128,
    0x9e8a54e37d6b91d45945fa9501986b01#128]
  #v[0xf757a57b96d74a65187260b1636ff5e0#128,
    0xc52418a146a9eff569afb910d17a9440#128,
    0x6be6e5de8cfcc9c6c81f9448939e2742#128,
    0x5eb99a33ddadf0f6ec194c265e6553b7#128]
  #v[0x1345d36942dd76b09a932a1c35db9007#128,
    0xceb55919fec0fdf3be00f8ab416ba253#128,
    0xc6ba3d68052ba3d2a5d42136bf18504c#128,
    0xac4404698a9d7614516830c88ef8a211#128,
    0xa14f2a473194f74a665234e2872ede10#128,
    0x42a919120875f522a603bdf1bbdf9afc#128]

/-! ### Well-formed commands: what the check refuses (R79) -/

theorem test_wellFormed_status : Instr.wellFormed (.status 0#256) = true ∧ Instr.wellFormed (.status 1#256) = false := by decide
theorem test_wellFormed_init : Instr.wellFormed (.init 0#256) = true ∧ Instr.wellFormed (.init 1#256) = false := by decide
theorem test_wellFormed_finalize : Instr.wellFormed (.finalize 0#256) = true ∧ Instr.wellFormed (.finalize 1#256) = false := by decide
theorem test_wellFormed_reserved : Instr.wellFormed (.reserved7 0#256) = false ∧ Instr.wellFormed (.reservedF 0#256) = false := by decide

/-! ### Words written out from R70 to R72: `OP` is the first hex digit of the transaction, `DATA` the other 64 -/

theorem test_decode_status : decode 0x03f3e3d3c3b3a393837363534333231302f2e2d2c2b2a29282726252423222120#260 = .status 0x3f3e3d3c3b3a393837363534333231302f2e2d2c2b2a29282726252423222120#256 := by decide +kernel
theorem test_decode_loadKeyIv : decode 0x13f3e3d3c3b3a393837363534333231302f2e2d2c2b2a29282726252423222120#260 = .loadKeyIv 0x2f2e2d2c2b2a29282726252423222120#128 0x3f3e3d3c3b3a39383736353433323130#128 := by decide +kernel
theorem test_decode_init : decode 0x23f3e3d3c3b3a393837363534333231302f2e2d2c2b2a29282726252423222120#260 = .init 0x3f3e3d3c3b3a393837363534333231302f2e2d2c2b2a29282726252423222120#256 := by decide +kernel
theorem test_decode_absorbAd : decode 0x33f3e3d3c3b3a393837363534333231302f2e2d2c2b2a29282726252423222120#260 = .absorbAd 0x3f3e3d3c3b3a393837363534333231302f2e2d2c2b2a29282726252423222120#256 := by decide +kernel
theorem test_decode_encrypt : decode 0x43f3e3d3c3b3a393837363534333231302f2e2d2c2b2a29282726252423222120#260 = .encrypt 0x3f3e3d3c3b3a393837363534333231302f2e2d2c2b2a29282726252423222120#256 := by decide +kernel
theorem test_decode_decrypt : decode 0x53f3e3d3c3b3a393837363534333231302f2e2d2c2b2a29282726252423222120#260 = .decrypt 0x3f3e3d3c3b3a393837363534333231302f2e2d2c2b2a29282726252423222120#256 := by decide +kernel
theorem test_decode_finalize : decode 0x63f3e3d3c3b3a393837363534333231302f2e2d2c2b2a29282726252423222120#260 = .finalize 0x3f3e3d3c3b3a393837363534333231302f2e2d2c2b2a29282726252423222120#256 := by decide +kernel
theorem test_decode_reserved7 : decode 0x73f3e3d3c3b3a393837363534333231302f2e2d2c2b2a29282726252423222120#260 = .reserved7 0x3f3e3d3c3b3a393837363534333231302f2e2d2c2b2a29282726252423222120#256 := by decide +kernel
theorem test_decode_reserved8 : decode 0x83f3e3d3c3b3a393837363534333231302f2e2d2c2b2a29282726252423222120#260 = .reserved8 0x3f3e3d3c3b3a393837363534333231302f2e2d2c2b2a29282726252423222120#256 := by decide +kernel
theorem test_decode_reserved9 : decode 0x93f3e3d3c3b3a393837363534333231302f2e2d2c2b2a29282726252423222120#260 = .reserved9 0x3f3e3d3c3b3a393837363534333231302f2e2d2c2b2a29282726252423222120#256 := by decide +kernel
theorem test_decode_reservedA : decode 0xa3f3e3d3c3b3a393837363534333231302f2e2d2c2b2a29282726252423222120#260 = .reservedA 0x3f3e3d3c3b3a393837363534333231302f2e2d2c2b2a29282726252423222120#256 := by decide +kernel
theorem test_decode_reservedB : decode 0xb3f3e3d3c3b3a393837363534333231302f2e2d2c2b2a29282726252423222120#260 = .reservedB 0x3f3e3d3c3b3a393837363534333231302f2e2d2c2b2a29282726252423222120#256 := by decide +kernel
theorem test_decode_reservedC : decode 0xc3f3e3d3c3b3a393837363534333231302f2e2d2c2b2a29282726252423222120#260 = .reservedC 0x3f3e3d3c3b3a393837363534333231302f2e2d2c2b2a29282726252423222120#256 := by decide +kernel
theorem test_decode_reservedD : decode 0xd3f3e3d3c3b3a393837363534333231302f2e2d2c2b2a29282726252423222120#260 = .reservedD 0x3f3e3d3c3b3a393837363534333231302f2e2d2c2b2a29282726252423222120#256 := by decide +kernel
theorem test_decode_reservedE : decode 0xe3f3e3d3c3b3a393837363534333231302f2e2d2c2b2a29282726252423222120#260 = .reservedE 0x3f3e3d3c3b3a393837363534333231302f2e2d2c2b2a29282726252423222120#256 := by decide +kernel
theorem test_decode_reservedF : decode 0xf3f3e3d3c3b3a393837363534333231302f2e2d2c2b2a29282726252423222120#260 = .reservedF 0x3f3e3d3c3b3a393837363534333231302f2e2d2c2b2a29282726252423222120#256 := by decide +kernel

/-- The table numbers the bits of `OP` 3..0: table word 6 of 8 bits is FINALIZE with `DATA` 0 (opcode_table.json, log 13). -/
theorem test_decodeTableWord : decodeTableWord 8 6 = some (.finalize 0#256) ∧ decodeTableWord 8 15 = some (.reservedF 0#256) := by
  decide +kernel

/-! ### Datapath (V1 to V7) -/

/-- V1, the FIPS-197 check. -/
theorem test_round_V1 :
    aesRound (bs 0x193de3bea0f4e22b9ac68d2ae9f84808#128) (bs 0xa0fafe1788542cb123a339392a6c7605#128) =
      bs 0xa49c7ff2689f352b6b5bea43026a5049#128 := by decide +kernel
/-- V2. -/
theorem test_sbox_V2 : [0x00#8, 0x01#8, 0x10#8, 0x53#8, 0x80#8, 0xff#8].map sbox = [0x63#8, 0x7c#8, 0xca#8, 0xed#8, 0xcd#8, 0x16#8] := by
  decide +kernel
/-- V3. -/
theorem test_shiftRows_V3 : shiftRows k1 = bs 0x00050a0f04090e03080d02070c01060b#128 := by decide +kernel
/-- V3: `db 13 53 45` gives `8e 4d a1 bc`. -/
theorem test_mixColumn_V3 : [0, 1, 2, 3].map (mixColumn 0xdb#8 0x13#8 0x53#8 0x45#8) = [0x8e#8, 0x4d#8, 0xa1#8, 0xbc#8] := by
  decide +kernel
/-- V4: the order of the operands matters. -/
theorem test_round_V4 :
    aesRound ti1.z0 ti1.z1 = bs 0x171409f54efdff66481f23ac2ae5c855#128 ∧
    aesRound ti1.z1 ti1.z0 = bs 0x1137df6c070d5908a578dc310ab7068d#128 := by decide +kernel
/-- V5, N = 4. -/
theorem test_advance_V5 :
    advance ti1.z0 (#v[bs 0x11111111111111111111111111111111#128, bs 0x22222222222222222222222222222222#128,
        bs 0x33333333333333333333333333333333#128, bs 0x44444444444444444444444444444444#128] : Vector Lane 4)
      (bs 0x01010101010101010101010101010101#128) =
    #v[bs 0x0b0b0b0b0b0b0b0b0b0b0b0b0b0b0b0b#128, bs 0xc008ad1a55aa2ca0f3b5c613a16de74f#128,
      bs 0x22222222222222222222222222222222#128, bs 0x33333333333333333333333333333333#128] := by decide +kernel
/-- V6. -/
theorem test_lengthWord_V6 : lengthWord 0x0102030405060708#64 = bs 0x08070605040302010000000000000000#128 := by decide +kernel
/-- V7. -/
theorem test_keystream_V7 :
    keystreamLo lanesV10 = bs 0x6e45711d4cb6daf4fdad9aadf9748860#128 ∧
    keystreamHi lanesV10 = bs 0xd38615e92f06eb9e94d64257a37dfd03#128 ∧
    tagOf lanesV10 = bs 0x10bc5de5e8b7942f02e7e3822b40831d#128 := by decide +kernel

/-! ### The commands, one step each -/

/-- R77's example: ENC, `AD_COUNT` = 1, `MSG_COUNT` = 2. -/
theorem test_status_word :
    response (exec (.status 0#256) (st true .enc 1#64 2#64 Lanes.zero)) =
      some (0#4, 0x200000000000000010000000000000102#256) := by decide +kernel
/-- V13, after reset; `DATA` ignored. -/
theorem test_status_reset : response (exec (.status (BitVec.allOnes 256)) (st0 false .idle)) = some (0#4, 0#256) := by decide +kernel
/-- P5 step 4: a LOAD_KEYIV in a session ends it. -/
theorem test_loadKeyIv_ends_session :
    (after (exec (.loadKeyIv k1 iv1) (st true .ad 1#64 0#64 lanesV20))).map (fun s => (s.key, s.iv, s.phase, s.adCount)) =
      some (k1, iv1, .idle, 0#64) := by decide +kernel
/-- V11. -/
theorem test_init_V11 :
    lanesAfter (exec (.init 0#256) { st true .idle 0#64 0#64 Lanes.zero with key := k1, iv := iv1 }) = some (allLanes lanesV11) := by
  decide +kernel
/-- V50. -/
theorem test_init_no_key : response (exec (.init 0#256) (st0 false .idle)) = some (2#4, 0#256) := by decide +kernel
/-- V20. -/
theorem test_absorbAd_V20 : lanesAfter (exec (.absorbAd ad0) (st true .ad 0#64 0#64 lanesV11)) = some (allLanes lanesV20) := by
  decide +kernel
/-- V23: the count wraps. -/
theorem test_absorbAd_wraps :
    (after (exec (.absorbAd ad0) (st true .ad 0xffffffffffffffff#64 0#64 Lanes.zero))).map (fun s => s.adCount) = some 0#64 := by
  decide +kernel
/-- V33, first block: the answer. -/
theorem test_encrypt_V33 : response (exec (.encrypt m0) (st true .ad 1#64 0#64 lanesV20)) = some (0#4, c0) := by decide +kernel
/-- V33, first block: the lanes. -/
theorem test_encrypt_V33_lanes : lanesAfter (exec (.encrypt m0) (st true .ad 1#64 0#64 lanesV20)) = some (allLanes lanesV33) := by
  decide +kernel
/-- V33: DECRYPT of the first ciphertext block returns `M0`. -/
theorem test_decrypt_V33 : response (exec (.decrypt c0) (st true .ad 1#64 0#64 lanesV20)) = some (0#4, m0) := by decide +kernel
/-- V32: DECRYPT of a zero block. -/
theorem test_decrypt_V32 :
    response (exec (.decrypt 0#256) (st true .ad 0#64 0#64 lanesV10)) =
      some (0#4, bs2 0x0eba95aeb73f708c968331d4eb450dc0#128 0x8a27ad4d9e1f014dbd224ee25769e152#128) := by decide +kernel
/-- V40: the tag of the regression scenario. -/
theorem test_finalize_V40 :
    response (exec (.finalize 0#256) (st true .enc 0#64 1#64 lanesV30)) =
      some (0#4, bs2 0x438baf5daa2a432faec3a87f38ee6076#128 0#128) := by decide +kernel
/-- V40: the lanes after the 20 blank rounds. -/
theorem test_finalize_V40_lanes :
    lanesAfter (exec (.finalize 0#256) (st true .enc 0#64 1#64 lanesV30)) = some (allLanes lanesV40) := by decide +kernel
/-- V50: ILLEGAL_CMD before NO_KEY. -/
theorem test_reserved7 : response (exec (.reserved7 0#256) (st0 false .idle)) = some (1#4, 0#256) := by decide +kernel
/-- V51. -/
theorem test_reserved8 : response (exec (.reserved8 0#256) (st true .ad 1#64 0#64 lanesV20)) = some (1#4, 0#256) := by decide +kernel
/-- V51. -/
theorem test_reserved9 : response (exec (.reserved9 0#256) (st true .ad 1#64 0#64 lanesV20)) = some (1#4, 0#256) := by decide +kernel
/-- V51. -/
theorem test_reservedA : response (exec (.reservedA 0#256) (st true .ad 1#64 0#64 lanesV20)) = some (1#4, 0#256) := by decide +kernel
/-- V51. -/
theorem test_reservedB : response (exec (.reservedB 0#256) (st true .ad 1#64 0#64 lanesV20)) = some (1#4, 0#256) := by decide +kernel
/-- V51. -/
theorem test_reservedC : response (exec (.reservedC 0#256) (st true .ad 1#64 0#64 lanesV20)) = some (1#4, 0#256) := by decide +kernel
/-- V51. -/
theorem test_reservedD : response (exec (.reservedD 0#256) (st true .ad 1#64 0#64 lanesV20)) = some (1#4, 0#256) := by decide +kernel
/-- V51. -/
theorem test_reservedE : response (exec (.reservedE 0#256) (st true .ad 1#64 0#64 lanesV20)) = some (1#4, 0#256) := by decide +kernel
/-- V51. -/
theorem test_reservedF : response (exec (.reservedF 0#256) (st true .ad 1#64 0#64 lanesV20)) = some (1#4, 0#256) := by decide +kernel

/-! ### The machine, one edge each -/

/-- Pins offering ENCRYPT `M0`. -/
def offer : Pins := { Pins.quiet with cmdValid := true, cmdOp := 0x4#4, cmdData := m0 }
/-- Pins taking a response. -/
def take : Pins := { Pins.quiet with rspReady := true }
/-- Pins resetting. -/
def resetPins : Pins := { Pins.quiet with rst := true }
/-- ENCRYPT `M0` in flight with `w` edges to wait, in the state of V20. -/
def flying (w : Nat) : State :=
  { st true .ad 1#64 0#64 lanesV20 with inFlight := some ⟨transaction 0x4#4 m0, w⟩ }
/-- A response pending. -/
def pending : State := { st0 true .ad with rspPending := true, rspStatus := 0x1#4 }

/-- R51: an offered command is accepted; `LAT` is 1 in TI-1, so the next edge performs it. -/
theorem test_step_accepts :
    (after (step { st0 true .ad with inputs := [offer], delays := [5] })).map (fun s => (s.inFlight, s.rspPending)) =
      some (some ⟨transaction 0x4#4 m0, 0⟩, false) := by decide +kernel
/-- R33, V33: the performing edge gives the response. -/
theorem test_step_performs : response (step (flying 0)) = some (0#4, c0) := by decide +kernel
/-- P5 steps 7 to 9: a reset clears the key and drops what is in flight. -/
theorem test_step_resets :
    (after (step { flying 3 with inputs := [resetPins] })).map (fun s => (s.keyValid, s.phase, s.inFlight)) =
      some (false, .idle, none) := by decide +kernel
/-- R236: a response is taken at an edge with `rsp_ready` = 1. -/
theorem test_step_takes : (after (step { pending with inputs := [take] })).map (fun s => s.rspPending) = some false := by decide +kernel
/-- A command placed right after reset is performed by the first step: LOAD_KEYIV with `DATA` 0. -/
theorem test_placed_runs : ∃ t, step (State.reset.withFetchWord 8 1) = .next t ∧ t.keyValid = true := ⟨_, rfl, rfl⟩

/-! ### The assembler -/

/-- R79: a comment ends the line, blanks separate words. -/
theorem test_assemble_init :
    assembleLine [' ', 'I', 'N', 'I', 'T', ' ', ';', 'x'] = some 0x20000000000000000000000000000000000000000000000000000000000000000#260 := by
  decide +kernel
/-- R79: byte 0 is the first pair of digits (V20's `AD0` is bytes 0x00 to 0x1f). -/
theorem test_blockText : (blockText ad0).take 6 = ['0', '0', '0', '1', '0', '2'] := by decide +kernel
/-- R80. -/
theorem test_expand_encode :
    expand (.encode k1 iv1 [ad0] [m0]) = [.loadKeyIv k1 iv1, .init 0#256, .absorbAd ad0, .encrypt m0, .finalize 0#256] := by decide +kernel

/-! ### Witnesses: the hypotheses of each statement that has some are met, clause by clause -/

theorem witness_RoundByBytes : (0 : Nat) < 4 ∧ (3 : Nat) < 4 := by decide
theorem witness_LengthWordPacking : (0 < 8 ∧ 7 < 8) ∧ (8 ≤ 8 ∧ 15 < 16) := by decide
theorem witness_InitResult : (st0 true .done).keyValid = true ∧ (st0 false .idle).keyValid = false := by decide
theorem witness_AbsorbAdResult :
    ((st0 true .ad).keyValid = true ∧ (st0 true .ad).phase = .ad) ∧ (st0 false .idle).keyValid = false ∧
    ((st0 true .idle).keyValid = true ∧ (st0 true .idle).phase ≠ .ad) ∧ ((st0 true .enc).phase ≠ .ad) := by decide
theorem witness_EncryptResult :
    ((st0 true .ad).keyValid = true ∧ ((st0 true .ad).phase = .ad ∨ (st0 true .ad).phase = .enc)) ∧
    ((st0 true .enc).keyValid = true ∧ ((st0 true .enc).phase = .ad ∨ (st0 true .enc).phase = .enc)) ∧
    (st0 false .idle).keyValid = false ∧
    ((st0 true .dec).keyValid = true ∧ (st0 true .dec).phase ≠ .ad ∧ (st0 true .dec).phase ≠ .enc) := by decide
theorem witness_DecryptResult :
    ((st0 true .ad).keyValid = true ∧ ((st0 true .ad).phase = .ad ∨ (st0 true .ad).phase = .dec)) ∧
    ((st0 true .dec).keyValid = true ∧ ((st0 true .dec).phase = .ad ∨ (st0 true .dec).phase = .dec)) ∧
    (st0 false .idle).keyValid = false ∧
    ((st0 true .enc).keyValid = true ∧ (st0 true .enc).phase ≠ .ad ∧ (st0 true .enc).phase ≠ .dec) := by decide
theorem witness_FinalizeResult :
    ((st0 true .ad).keyValid = true ∧ ((st0 true .ad).phase = .ad ∨ (st0 true .ad).phase = .enc ∨ (st0 true .ad).phase = .dec)) ∧
    ((st0 true .dec).keyValid = true ∧ ((st0 true .dec).phase = .ad ∨ (st0 true .dec).phase = .enc ∨ (st0 true .dec).phase = .dec)) ∧
    (st0 false .idle).keyValid = false ∧
    ((st0 true .idle).keyValid = true ∧ ((st0 true .idle).phase = .idle ∨ (st0 true .idle).phase = .done)) ∧
    ((st0 true .done).keyValid = true ∧ ((st0 true .done).phase = .idle ∨ (st0 true .done).phase = .done)) := by decide
/-- A legal command (FINALIZE, the highest opcode of the table) and an illegal one. -/
theorem witness_SessionTable :
    (Instr.opcode (.finalize 0#256)).toNat < 7 ∧ ((st0 false .idle).keyValid = false ∧ 0x2 ≤ (Instr.opcode (.finalize 0#256)).toNat) ∧
    ¬((st0 true .dec).keyValid = false ∧ 0x2 ≤ (Instr.opcode (.finalize 0#256)).toNat) ∧
    sessionTable (.finalize 0#256) (st0 true .dec).phase = some .done ∧
    sessionTable (.finalize 0#256) (st0 true .done).phase = none := by decide
theorem witness_ErrorWritesNoState :
    ∃ t, exec (.encrypt 0#256) (st0 true .dec) = .next t ∧ t.rspStatus ≠ 0x0#4 := ⟨_, rfl, by decide⟩
theorem witness_IgnoredDataHasNoEffect :
    ((0x0#4 : Opcode) = 0x0#4) ∧ ((0x2#4 : Opcode) = 0x2#4) ∧ 0x6 ≤ (0x6#4 : Opcode).toNat ∧ 0x6 ≤ (0xF#4 : Opcode).toNat := by decide
theorem witness_OnlyLoadWritesKey :
    ∃ t, exec (.init 0#256) (st0 true .ad) = .next t ∧ ∀ key iv, Instr.init 0#256 ≠ .loadKeyIv key iv :=
  ⟨_, rfl, fun _ _ h => by cases h⟩
theorem witness_OnlySessionCommandsWriteLanes :
    ∃ t, exec (.absorbAd ad0) (st true .ad 0#64 0#64 lanesV11) = .next t ∧
      t.lanes ≠ (st true .ad 0#64 0#64 lanesV11).lanes := ⟨_, rfl, by decide +kernel⟩
/-- One witness for each row of the table of counters; the counter of ABSORB_AD at its last value. -/
theorem witness_CounterRules :
    (∃ t, exec (.loadKeyIv k1 iv1) (st0 false .idle) = .next t ∧ t.rspStatus = 0x0#4) ∧
    (∃ t, exec (.init 0#256) (st0 true .idle) = .next t ∧ t.rspStatus = 0x0#4) ∧
    (∃ t, exec (.absorbAd ad0) (st true .ad 0xffffffffffffffff#64 0#64 Lanes.zero) = .next t ∧ t.rspStatus = 0x0#4) ∧
    (∃ t, exec (.encrypt m0) (st0 true .enc) = .next t ∧ t.rspStatus = 0x0#4) ∧
    (∃ t, exec (.decrypt m0) (st0 true .dec) = .next t ∧ t.rspStatus = 0x0#4) ∧
    (∃ t, exec (.finalize 0#256) (st0 true .ad) = .next t ∧ t.rspStatus = 0x0#4) ∧
    (∃ t, exec (.status 0#256) (st0 true .ad) = .next t ∧ t.rspStatus = 0x0#4) :=
  ⟨⟨_, rfl, rfl⟩, ⟨_, rfl, rfl⟩, ⟨_, rfl, rfl⟩, ⟨_, rfl, rfl⟩, ⟨_, rfl, rfl⟩, ⟨_, rfl, rfl⟩, ⟨_, rfl, rfl⟩⟩
theorem witness_CommandsLeaveTheRest : ∃ t, exec (.finalize 0#256) (st0 true .ad) = .next t := ⟨_, rfl⟩
theorem witness_RepeatingIsPerformingOnce :
    (∃ t, exec (.loadKeyIv k1 iv1) (st0 true .ad) = .next t) ∧ (∃ t, exec (.init 0#256) (st0 true .ad) = .next t) ∧
    (∃ t, exec (.status 0#256) (st0 true .ad) = .next t) := ⟨⟨_, rfl⟩, ⟨_, rfl⟩, ⟨_, rfl⟩⟩
theorem witness_EncryptClosedForm : ∃ t, exec (.encrypt m0) (st0 true .ad) = .next t ∧ t.rspStatus = 0x0#4 := ⟨_, rfl, rfl⟩
theorem witness_DecryptAbsorbsItsAnswer : ∃ t, exec (.decrypt c0) (st0 true .dec) = .next t ∧ t.rspStatus = 0x0#4 := ⟨_, rfl, rfl⟩
theorem witness_EncryptThenDecrypt :
    ∃ t, exec (.encrypt m0) (st0 true .enc) = .next t ∧ t.rspStatus = 0x0#4 ∧ (st0 true .dec).params = (st0 true .enc).params ∧
      (st0 true .dec).lanes = (st0 true .enc).lanes ∧ (st0 true .dec).keyValid = true ∧ (st0 true .dec).phase = .dec :=
  ⟨_, rfl, rfl, rfl, rfl, rfl, rfl⟩
theorem witness_DecryptThenEncrypt :
    ∃ t, exec (.decrypt c0) (st0 true .ad) = .next t ∧ t.rspStatus = 0x0#4 ∧ (st0 true .enc).params = (st0 true .ad).params ∧
      (st0 true .enc).lanes = (st0 true .ad).lanes ∧ (st0 true .enc).keyValid = true ∧ (st0 true .enc).phase = .enc :=
  ⟨_, rfl, rfl, rfl, rfl, rfl, rfl⟩
theorem witness_DecodeUndoesEncode : (st true .enc 1#64 2#64 lanesV33).params = (st0 false .idle).params := rfl
/-- Two states with other lanes, phases and counts, and a two-command session. -/
theorem witness_NoHiddenSessionState :
    ∃ rs rs' t t',
      Performs (st true .done 1#64 2#64 lanesV33) [.init 0#256, .status 0#256] rs t ∧
      Performs (st0 true .idle) [.init 0#256, .status 0#256] rs' t' ∧
      (st0 true .idle).params = (st true .done 1#64 2#64 lanesV33).params ∧ (st0 true .idle).key = (st true .done 1#64 2#64 lanesV33).key :=
  ⟨_, _, _, _, ⟨_, _, rfl, rfl, _, _, rfl, rfl, rfl, rfl⟩, ⟨_, _, rfl, rfl, _, _, rfl, rfl, rfl, rfl⟩, rfl, rfl⟩
/-- A LOAD_KEYIV without a key, after which a key is valid. -/
theorem witness_KeylessReadsNothing :
    ∃ t t', (st0 false .idle).keyValid = false ∧ exec (.loadKeyIv k1 iv1) (st0 false .idle) = .next t ∧
      exec (.loadKeyIv k1 iv1) { st0 false .idle with key := iv1, iv := k1, lanes := lanesV11 } = .next t' ∧ t.keyValid = true :=
  ⟨_, _, rfl, rfl, rfl, rfl⟩
/-- An INIT from IDLE and from DONE, which leaves AD. -/
theorem witness_NoSessionReadsNoLane :
    (∃ t t', (st0 true .idle).phase = .idle ∧ exec (.init 0#256) (st0 true .idle) = .next t ∧
      exec (.init 0#256) { st0 true .idle with lanes := lanesV11 } = .next t' ∧ t.phase = .ad) ∧
    (∃ t t', (st0 true .done).phase = .done ∧ exec (.init 0#256) (st0 true .done) = .next t ∧
      exec (.init 0#256) { st0 true .done with lanes := lanesV11 } = .next t' ∧ t.phase = .ad) :=
  ⟨⟨_, _, rfl, rfl, rfl, rfl⟩, ⟨_, _, rfl, rfl, rfl, rfl⟩⟩
theorem witness_OtherResponsesCarryNoSecret :
    (∃ t t', ¬(0x4 ≤ (Instr.opcode (.absorbAd ad0)).toNat ∧ (Instr.opcode (.absorbAd ad0)).toNat ≤ 0x6) ∧
      exec (.absorbAd ad0) (st0 true .ad) = .next t ∧
      exec (.absorbAd ad0) { st0 true .ad with key := k1, iv := iv1, lanes := lanesV11 } = .next t') ∧
    ¬(0x4 ≤ (Instr.opcode (.reserved7 0#256)).toNat ∧ (Instr.opcode (.reserved7 0#256)).toNat ≤ 0x6) :=
  ⟨⟨_, _, by decide, rfl, rfl⟩, by decide⟩

/-- TI-1's constants differ (R107). -/
theorem test_ti1_distinct : ti1.Distinct := by decide +kernel

/-- The invariant holds of a state with a command in flight, between edges. -/
theorem witness_flying_Inv : Inv (flying 0) where
  keyless_idle h := by cases h
  idle_counts h := by cases h
  ad_count _ := rfl
  one_command h := by cases h
  ready_first h := absurd rfl h
  ready_bound := Nat.le_refl _
  wait_bound f h := by cases h; decide +kernel
  code_range h := by cases h
  distinct := test_ti1_distinct
theorem witness_EveryEdgeKeepsInvariant : ∃ t, Inv (flying 0) ∧ step (flying 0) = .next t :=
  ⟨_, witness_flying_Inv, rfl⟩
theorem witness_ResetEdgeResets : (sampledPins { flying 3 with inputs := [resetPins] }).rst = true := rfl
theorem witness_ResetStartsReadyDelay : (sampledPins { pending with inputs := [resetPins, take] }).rst = true := rfl
theorem witness_StepRunsDecodedCommand : Performing (flying 0) ⟨transaction 0x4#4 m0, 0⟩ := ⟨rfl, rfl, rfl, rfl⟩
/-- An instance whose `LAT` is 3 for every opcode, and one with the command of the highest opcode. -/
theorem witness_OfferedCommandIsAccepted :
    let s := { st0 true .ad with inputs := [{ offer with cmdOp := 0xF#4 }], params := { ti1 with latExtra := Vector.replicate 16 2 } }
    (sampledPins s).rst = false ∧ (sampledPins s).cmdValid = true ∧ s.rspPending = false ∧ s.inFlight = none ∧ s.readyWait = 0 := by
  decide
/-- The invariant holds of a state with one more edge to wait, where `LAT` is 2. -/
theorem witness_waiting_Inv : Inv { flying 1 with params := { ti1 with latExtra := Vector.replicate 16 1 } } where
  keyless_idle h := by cases h
  idle_counts h := by cases h
  ad_count _ := rfl
  one_command h := by cases h
  ready_first h := absurd rfl h
  ready_bound := Nat.le_refl _
  wait_bound f h := by cases h; decide +kernel
  code_range h := by cases h
  distinct := test_ti1_distinct
/-- The invariant holds of a state ready for a command that is offered. -/
theorem witness_offered_Inv : Inv { st0 true .ad with inputs := [offer] } where
  keyless_idle h := by cases h
  idle_counts h := by cases h
  ad_count _ := rfl
  one_command h := by cases h
  ready_first h := absurd rfl h
  ready_bound := Nat.le_refl _
  wait_bound f h := by cases h
  code_range h := by cases h
  distinct := test_ti1_distinct
/-- A command already in flight, and one accepted at the edge. -/
theorem witness_OneCommandInFlight :
    (∃ s t g, Inv s ∧ step s = .next t ∧ t.inFlight = some g ∧ accepts s = false) ∧
    (∃ s t g, Inv s ∧ step s = .next t ∧ t.inFlight = some g ∧ accepts s = true) :=
  ⟨⟨_, _, _, witness_waiting_Inv, rfl, rfl, rfl⟩, ⟨_, _, _, witness_offered_Inv, rfl, rfl, rfl⟩⟩
theorem witness_ResponseHeldUntilTaken :
    ((sampledPins pending).rst = false ∧ pending.rspPending = true ∧ (sampledPins pending).rspReady = false) ∧
    (sampledPins { pending with inputs := [take] }).rspReady = true := by decide
theorem witness_OnlyPerformingChangesState :
    ∃ t, (sampledPins (flying 1)).rst = false ∧ (∀ f, ¬Performing (flying 1) f) ∧ step (flying 1) = .next t :=
  ⟨_, rfl, (by rintro f ⟨-, -, h3, h4⟩; cases h3; cases h4), rfl⟩
theorem witness_ResponsesComeFromCommands :
    ∃ t, step (flying 0) = .next t ∧ (flying 0).rspPending = false ∧ t.rspPending = true := ⟨_, rfl, rfl, rfl⟩
/-- `KEY_VALID` rises at a LOAD_KEYIV and falls at a reset. -/
theorem witness_KeyValidRises :
    (∃ s t, step s = .next t ∧ s.keyValid = false ∧ t.keyValid = true) ∧
    (∃ s t, step s = .next t ∧ s.keyValid = true ∧ t.keyValid = false) :=
  ⟨⟨{ st0 false .idle with inFlight := some ⟨transaction 0x1#4 0#256, 0⟩ }, _, rfl, rfl, rfl⟩,
   ⟨{ st0 true .ad with inputs := [resetPins] }, _, rfl, rfl, rfl⟩⟩
theorem witness_ResponseWithinLatency :
    (flying 2).rspPending = false ∧ (flying 2).inFlight = some ⟨transaction 0x4#4 m0, 2⟩ ∧
    NoReset 3 { flying 2 with inputs := [take, offer, Pins.quiet, resetPins] } :=
  ⟨rfl, rfl, fun p hp => by
    have h : p = take ∨ p = offer ∨ p = Pins.quiet := by simpa using hp
    rcases h with rfl | rfl | rfl <;> rfl⟩
theorem witness_UntakenResponseStalls :
    pending.rspPending = true ∧ NoReset 1 { pending with inputs := [offer] } ∧
    ∀ p ∈ ({ pending with inputs := [offer] } : State).inputs.take 1, p.rspReady = false :=
  ⟨rfl, fun p hp => by
    have h : p = offer := by simpa using hp
    subst h; rfl, fun p hp => by
    have h : p = offer := by simpa using hp
    subst h; rfl⟩
/-- An engine two edges from being ready. -/
theorem witness_ReadyAfterReset :
    ∃ s : State, s.rspPending = false ∧ s.inFlight = none ∧ s.readyWait = 2 ∧ NoReset s.readyWait s :=
  ⟨State.afterReset ti1 2 [] [] 0, rfl, rfl, rfl, fun p hp => by simp [State.afterReset] at hp⟩
/-- An engine one edge from being ready, and a host that holds ENCRYPT `M0` for two edges. -/
theorem witness_HeldCommandIsAccepted :
    ∃ s : State, s.rspPending = false ∧ s.inFlight = none ∧ (sampledPins s).cmdValid = true ∧ s.readyWait = 1 ∧
      NoReset (s.readyWait + 1) s ∧ HostHolds (s.readyWait + 1) s := by
  refine ⟨State.afterReset ti1 1 [offer, offer] [] 0, rfl, rfl, rfl, rfl, ?_, ?_⟩
  · intro p hp
    have h : p = offer := by simpa [State.afterReset] using hp
    subst h; rfl
  · refine ⟨fun _ _ _ => ⟨rfl, rfl, rfl⟩, fun t ht => ?_⟩
    cases ht
    exact ⟨fun _ _ h => by revert h; decide, fun _ _ => trivial⟩

end Sys2Proof.Tests
end

section
/-!
SUPPORT. Proofs of the statements of 00_scope.md: the byte string of a lane is read back (R9), and only performing a command changes the engine's state (R13).
-/
namespace Sys2Proof.Proofs
open Sys2Proof.Machine Sys2Proof.Safety Sys2Proof.Laws

/-! ### The byte string of a lane (R9) -/

@[simp] theorem hexValue_hexDigit : ∀ v : BitVec 4, hexValue (hexDigit v) = some v := by decide

/-- R9: a byte is its high digit followed by its low digit. -/
theorem highDigit_append_lowDigit (b : Byte) : (b.extractLsb' 4 4 ++ b.extractLsb' 0 4 : Byte) = b := by
  exact (BitVec.extractLsb'_append_extractLsb'_eq_extractLsb' (len₁ := 4) (len₂ := 4) rfl).trans BitVec.extractLsb'_eq_self

/-- Reading a text that begins with the two digits of a byte gives that byte first. -/
theorem readBytes_byteText_append (b : Byte) (rest : Text) :
    readBytes (byteText b ++ rest) = (readBytes rest).map (b :: ·) := by
  rw [byteText, List.cons_append, List.cons_append, List.nil_append, readBytes, hexValue_hexDigit, hexValue_hexDigit]
  cases readBytes rest with
  | none => rfl
  | some bs => simp [highDigit_append_lowDigit]

/-- The bytes written one after another are read back in their order. -/
theorem readBytes_flatMap_byteText (f : Nat → Byte) (l : List Nat) :
    readBytes (l.flatMap fun i => byteText (f i)) = some (l.map f) := by
  induction l with
  | nil => rfl
  | cons i l ih => rw [List.flatMap_cons, readBytes_byteText_append, ih]; rfl

/-- R8: a lane is packed from its own bytes; only the first 16 values of `f` count. -/
theorem laneOfBytes_eq_of_laneByte {f : Nat → Byte} {x : Lane} (h : ∀ i < 16, f i = laneByte x i) :
    laneOfBytes f = x := by
  apply BitVec.eq_of_getLsbD_eq
  intro j hj
  have hbyte : j / 8 < 16 := by omega
  have hbit : j % 8 < 8 := Nat.mod_lt _ (by decide)
  have hsum : 8 * (j / 8) + j % 8 = j := Nat.div_add_mod j 8
  rw [laneOfBytes, getLsbD_packBytes]
  simp [hj, hbyte, hbit, h _ hbyte, laneByte, hsum]

/-- Settles O5: the 32 digits are read back as the 16 bytes of the lane, and these pack to the lane. -/
theorem laneTextReadsBack : Obligations.LaneTextReadsBack := by
  intro x
  have hbytes : readBytes (laneText x) = some ((List.range 16).map (laneByte x)) :=
    readBytes_flatMap_byteText (laneByte x) (List.range 16)
  have hpack : laneOfBytes (fun i => ((List.range 16).map (laneByte x)).getD i 0#8) = x :=
    laneOfBytes_eq_of_laneByte fun i hi => by simp [hi]
  simpa [readLane, hbytes] using hpack

/-! ### What an edge that performs no command keeps (R13, R214) -/

/-- `t` holds the same engine state as `s`: every element of R20 but the response, and the parameters (R5). -/
structure SameEngine (s t : State) : Prop where
  lanes    : t.lanes = s.lanes
  key      : t.key = s.key
  iv       : t.iv = s.iv
  keyValid : t.keyValid = s.keyValid
  phase    : t.phase = s.phase
  adCount  : t.adCount = s.adCount
  msgCount : t.msgCount = s.msgCount
  params   : t.params = s.params

theorem responseEdge_sameEngine (s : State) : SameEngine s (responseEdge s) := by
  constructor <;> rfl

theorem waitEdge_sameEngine (f : InFlight) (s : State) : SameEngine s (waitEdge f s) := by
  constructor <;> rfl

theorem commandEdge_sameEngine (s : State) : SameEngine s (commandEdge s) := by
  obtain ⟨-, -, haccept⟩ | ⟨-, -, hidle⟩ | ⟨-, hdelay⟩ := commandEdge_cases s
  · rw [haccept]; constructor <;> rfl
  · rw [hidle]; constructor <;> rfl
  · rw [hdelay]; constructor <;> rfl

/-- R13: an edge that neither resets nor performs leaves or takes a response, lets the command in flight wait, or stands ready, and each of these keeps
the engine's state. -/
theorem step_sameEngine {s t : State} (hrst : (sampledPins s).rst = false) (hnot : ∀ f, ¬Performing s f)
    (hstep : step s = .next t) : SameEngine s t := by
  obtain ⟨hreset, -⟩ | ⟨-, -, rfl⟩ | ⟨f, -, hpend, hfly, hwait, -⟩ | ⟨f, -, -, -, -, rfl⟩ | ⟨-, -, -, rfl⟩ :=
    step_cases hstep
  · exact absurd hreset (by simp [hrst])
  · exact responseEdge_sameEngine s
  · exact absurd ⟨hrst, hpend, hfly, hwait⟩ (hnot f)
  · exact waitEdge_sameEngine f s
  · exact commandEdge_sameEngine s

/-- Settles O50: the eight fields of `SameEngine`, by the cases of the step. -/
theorem onlyPerformingChangesState : Obligations.OnlyPerformingChangesState := by
  intro s t hrst hnot hstep
  obtain ⟨hlanes, hkey, hiv, hvalid, hphase, had, hmsg, hparams⟩ := step_sameEngine hrst hnot hstep
  exact ⟨hlanes, hkey, hiv, hvalid, hphase, had, hmsg, hparams⟩

end Sys2Proof.Proofs
end

section
/-!
SUPPORT. Proofs of the statements of 10_state.md: what every command and every edge keeps (R22 to R28, R33, R34), and what no response depends on (R23, R35).
-/
namespace Sys2Proof.Proofs
open Sys2Proof.Machine Sys2Proof.Safety Sys2Proof.Claims Sys2Proof.Laws

/-! ### What a command can do (R78) -/

/-- The commands that pass the three checks of R78, with what the checks say of the state (R202, R203). -/
inductive Allowed : Instr → State → Prop where
  | status {s : State} (d : Block) : Allowed (.status d) s
  | loadKeyIv {s : State} (key iv : Lane) : Allowed (.loadKeyIv key iv) s
  | init {s : State} (d : Block) (hkey : s.keyValid = true) : Allowed (.init d) s
  | absorbAd {s : State} (d : Block) (hkey : s.keyValid = true) (hphase : s.phase = .ad) : Allowed (.absorbAd d) s
  | encrypt {s : State} (m : Block) (hkey : s.keyValid = true) (hphase : s.phase = .ad ∨ s.phase = .enc) :
      Allowed (.encrypt m) s
  | decrypt {s : State} (c : Block) (hkey : s.keyValid = true) (hphase : s.phase = .ad ∨ s.phase = .dec) :
      Allowed (.decrypt c) s
  | finalize {s : State} (d : Block) (hkey : s.keyValid = true)
      (hphase : s.phase = .ad ∨ s.phase = .enc ∨ s.phase = .dec) : Allowed (.finalize d) s

/-- A command that passes the checks is `Allowed`. -/
theorem allowed_of_checks {i : Instr} {s : State} (hres : isReserved i.opcode = false)
    (hkey : needsKey i.opcode = false ∨ s.keyValid = true) (hlegal : legal s.phase i.opcode = true) : Allowed i s := by
  cases i with
  | status d => exact .status d
  | loadKeyIv key iv => exact .loadKeyIv key iv
  | init d => exact .init d (hkey.resolve_left (by simp [needsKey, Instr.opcode]))
  | absorbAd d =>
    exact .absorbAd d (hkey.resolve_left (by simp [needsKey, Instr.opcode])) (of_decide_eq_true hlegal)
  | encrypt m =>
    exact .encrypt m (hkey.resolve_left (by simp [needsKey, Instr.opcode])) (of_decide_eq_true hlegal)
  | decrypt c =>
    exact .decrypt c (hkey.resolve_left (by simp [needsKey, Instr.opcode])) (of_decide_eq_true hlegal)
  | finalize d =>
    exact .finalize d (hkey.resolve_left (by simp [needsKey, Instr.opcode])) (of_decide_eq_true hlegal)
  | _ => simp [isReserved, Instr.opcode] at hres

/-- R78: an allowed command passes the checks, so its rule is performed. -/
theorem exec_of_allowed {i : Instr} {s : State} (h : Allowed i s) : exec i s = .next (bodyOf i s) := by
  rw [exec_eq_perform]
  cases h with
  | status | loadKeyIv => rfl
  | init _ hkey => simp [perform, isReserved, legal, Instr.opcode, hkey]
  | absorbAd _ hkey hphase | encrypt _ hkey hphase | decrypt _ hkey hphase | finalize _ hkey hphase =>
    simp [perform, isReserved, legal, Instr.opcode, hkey, hphase]

/-- R78: a command answers an error and writes no state, or it is allowed and its rule is performed. -/
theorem exec_cases {i : Instr} {s t : State} (h : exec i s = .next t) :
    (∃ e, e ≠ .ok ∧ t = raise e s) ∨ (Allowed i s ∧ t = bodyOf i s) := by
  rw [exec_eq_perform] at h
  obtain ⟨-, rfl⟩ | ⟨-, -, -, rfl⟩ | ⟨-, -, -, rfl⟩ | ⟨hres, hkey, hlegal, rfl⟩ := perform_cases h
  · exact .inl ⟨.illegalCmd, by decide, rfl⟩
  · exact .inl ⟨.noKey, by decide, rfl⟩
  · exact .inl ⟨.seqError, by decide, rfl⟩
  · exact .inr ⟨allowed_of_checks hres hkey hlegal, rfl⟩

/-- R202: the second check passes when no key is needed or one is loaded. -/
theorem keyCheck_passes {i : Instr} {s : State} (h : needsKey i.opcode = false ∨ s.keyValid = true) :
    (needsKey i.opcode && !s.keyValid) = false := by
  obtain h | h := h <;> simp [h]

/-- The checks read `KEY_VALID` and `PHASE` only: two states that agree on both are refused with the same error, or both perform the rule. -/
theorem exec_cases_two {i : Instr} {s s' t t' : State} (h : exec i s = .next t) (h' : exec i s' = .next t')
    (hvalid : s'.keyValid = s.keyValid) (hphase : s'.phase = s.phase) :
    (∃ e, t = raise e s ∧ t' = raise e s') ∨ (Allowed i s ∧ t = bodyOf i s ∧ t' = bodyOf i s') := by
  rw [exec_eq_perform] at h
  rw [exec_eq_perform, perform, hvalid, hphase] at h'
  obtain ⟨hres, rfl⟩ | ⟨hres, hneeds, hkey, rfl⟩ | ⟨hres, hkey, hlegal, rfl⟩ | ⟨hres, hkey, hlegal, rfl⟩ := perform_cases h
  · exact .inl ⟨.illegalCmd, rfl, by simpa [hres] using h'.symm⟩
  · exact .inl ⟨.noKey, rfl, by simpa [hres, hneeds, hkey] using h'.symm⟩
  · exact .inl ⟨.seqError, rfl, by simpa [hres, keyCheck_passes hkey, hlegal] using h'.symm⟩
  · exact .inr ⟨allowed_of_checks hres hkey hlegal, rfl, by simpa [hres, keyCheck_passes hkey, hlegal] using h'.symm⟩

/-- R75: the code 0 is OK's alone. -/
theorem rspCodeBits_eq_zero {e : RspCode} (h : rspCodeBits e = 0x0#4) : e = .ok := by
  cases e with
  | ok => rfl
  | _ => simp [rspCodeBits] at h

/-- R75: every code is at most 3. -/
theorem rspCodeBits_le (e : RspCode) : (rspCodeBits e).toNat ≤ 3 := by cases e <;> decide

/-- `t` has a response pending with a code of R75, and the parameters and the model's own fields of `s`. -/
structure Answers (s t : State) : Prop where
  rspPending : t.rspPending = true
  rspStatus  : ∃ e, t.rspStatus = rspCodeBits e
  params     : t.params = s.params
  inFlight   : t.inFlight = s.inFlight
  readyWait  : t.readyWait = s.readyWait
  inputs     : t.inputs = s.inputs
  delays     : t.delays = s.delays
  draws      : t.draws = s.draws

/-- R33: performing a command makes one response pending and writes neither the parameters nor the model's own fields. -/
theorem exec_answers_frame {i : Instr} {s t : State} (h : exec i s = .next t) : Answers s t := by
  obtain ⟨e, -, rfl⟩ | ⟨hallowed, rfl⟩ := exec_cases h
  · exact ⟨rfl, ⟨e, rfl⟩, rfl, rfl, rfl, rfl, rfl, rfl⟩
  · cases hallowed <;> exact ⟨rfl, ⟨.ok, rfl⟩, rfl, rfl, rfl, rfl, rfl, rfl⟩

/-! ### Who writes the key, the lanes and the counters (R22, R24, R25, R28) -/

/-- R24, R25: a command keeps `KEY`, `IV` and `KEY_VALID`, or is a LOAD_KEYIV that leaves its operands there. -/
theorem exec_key_cases {i : Instr} {s t : State} (h : exec i s = .next t) :
    (t.key = s.key ∧ t.iv = s.iv ∧ t.keyValid = s.keyValid) ∨
    (∃ key iv, i = .loadKeyIv key iv ∧ t.key = key ∧ t.iv = iv ∧ t.keyValid = true) := by
  obtain ⟨e, -, rfl⟩ | ⟨hallowed, rfl⟩ := exec_cases h
  · exact .inl ⟨rfl, rfl, rfl⟩
  · cases hallowed with
    | loadKeyIv key iv => exact .inr ⟨key, iv, rfl, rfl, rfl, rfl⟩
    | _ => exact .inl ⟨rfl, rfl, rfl⟩

/-- Settles O25: LOAD_KEYIV is the only other case of `exec_key_cases`. -/
theorem onlyLoadWritesKey : Obligations.OnlyLoadWritesKey := by
  intro i s t hexec hnotLoad
  obtain hkept | ⟨key, iv, hload, -⟩ := exec_key_cases hexec
  · exact hkept
  · exact absurd hload (hnotLoad key iv)

/-- Settles O26: an error, STATUS and LOAD_KEYIV keep the lanes; the other five rules answer OK. -/
theorem onlySessionCommandsWriteLanes : Obligations.OnlySessionCommandsWriteLanes := by
  intro i s t hexec hlanes
  obtain ⟨e, -, rfl⟩ | ⟨hallowed, rfl⟩ := exec_cases hexec
  · exact absurd rfl hlanes
  · cases hallowed with
    | status => exact absurd rfl hlanes
    | loadKeyIv => exact absurd rfl hlanes
    | _ => exact ⟨rfl, by simp [Instr.opcode], by simp [Instr.opcode]⟩

/-- Settles O27: the answer OK means the rule was performed, and each rule counts as R28 says. -/
theorem counterRules : Obligations.CounterRules := by
  intro i s t hexec hok
  obtain ⟨e, herror, rfl⟩ | ⟨hallowed, rfl⟩ := exec_cases hexec
  · exact absurd (rspCodeBits_eq_zero hok) herror
  · cases hallowed with
    | absorbAd | encrypt | decrypt => simp [bodyOf, BitVec.toNat_add]
    | _ => rfl

/-! ### No hidden session state (R23, R234) -/

/-- The two states hold the same engine state and the same response. -/
structure SameAnswer (s t : State) : Prop extends SameEngine s t where
  rspStatus : t.rspStatus = s.rspStatus
  rspData   : t.rspData = s.rspData

section
variable {s t : State} (h : SameEngine s t)
include h

theorem SameEngine.setLanes (l : Lanes) : SameEngine (setLanes l s) (setLanes l t) := { h with lanes := rfl }

theorem SameEngine.setKeyIv (key iv : Lane) : SameEngine (setKeyIv key iv s) (setKeyIv key iv t) :=
  { h with key := rfl, iv := rfl, keyValid := rfl }

theorem SameEngine.setPhase (ph : Phase) : SameEngine (setPhase ph s) (setPhase ph t) := { h with phase := rfl }

theorem SameEngine.clearCounts : SameEngine (clearCounts s) (clearCounts t) :=
  { h with adCount := rfl, msgCount := rfl }

theorem SameEngine.countAd : SameEngine (countAd s) (countAd t) :=
  { h with adCount := congrArg (· + 1#64) h.adCount }

theorem SameEngine.countMsg : SameEngine (countMsg s) (countMsg t) :=
  { h with msgCount := congrArg (· + 1#64) h.msgCount }

theorem SameEngine.respond (code : RspCode) (data : Block) : SameAnswer (respond code data s) (respond code data t) :=
  { h with rspStatus := rfl, rspData := rfl }

/-- R77: the STATUS word reads the engine state only. -/
theorem SameEngine.statusWord : statusWord t = statusWord s := by
  simp only [Machine.statusWord, h.keyValid, h.phase, h.adCount, h.msgCount]

/-- The rule of an allowed command reads the engine state only. -/
theorem SameEngine.bodyOf {i : Instr} (hallowed : Allowed i s) : SameAnswer (bodyOf i s) (bodyOf i t) := by
  cases hallowed with
  | status =>
    simp only [Laws.bodyOf, h.statusWord]
    exact h.respond _ _
  | loadKeyIv key iv => exact (((h.setKeyIv key iv).setPhase _).clearCounts).respond _ _
  | init =>
    simp only [Laws.bodyOf, h.params, h.key, h.iv]
    exact (((h.setLanes _).clearCounts).setPhase _).respond _ _
  | absorbAd =>
    simp only [Laws.bodyOf, h.params, h.lanes]
    exact ((h.setLanes _).countAd).respond _ _
  | encrypt =>
    simp only [Laws.bodyOf, h.params, h.lanes]
    exact (((h.setLanes _).countMsg).setPhase _).respond _ _
  | decrypt =>
    simp only [Laws.bodyOf, h.params, h.lanes]
    exact (((h.setLanes _).countMsg).setPhase _).respond _ _
  | finalize =>
    simp only [Laws.bodyOf, h.params, h.lanes, h.adCount, h.msgCount]
    exact ((h.setLanes _).setPhase _).respond _ _

/-- The same command from the same engine state leaves the same engine state and the same response. -/
theorem SameEngine.exec {i : Instr} {u v : State} (hu : exec i s = .next u) (hv : exec i t = .next v) : SameAnswer u v := by
  obtain ⟨e, rfl, rfl⟩ | ⟨hallowed, rfl, rfl⟩ := exec_cases_two hu hv h.keyValid h.phase
  · exact h.respond e 0#256
  · exact h.bodyOf hallowed

end

/-- R58: the same commands from the same engine state give the same responses and leave the same engine state. -/
theorem SameEngine.performs {is : List Instr} {rs rs' : List Response} {s s' t t' : State} (h : SameEngine s s')
    (hrun : Performs s is rs t) (hrun' : Performs s' is rs' t') : rs' = rs ∧ SameEngine t t' := by
  induction is generalizing s s' rs rs' with
  | nil =>
    obtain ⟨rfl, rfl⟩ := hrun
    obtain ⟨rfl, rfl⟩ := hrun'
    exact ⟨rfl, h⟩
  | cons i is ih =>
    obtain ⟨u, qs, hexec, rfl, hrest⟩ := hrun
    obtain ⟨u', qs', hexec', rfl, hrest'⟩ := hrun'
    have hanswer : SameAnswer u u' := h.exec hexec hexec'
    obtain ⟨rfl, hend⟩ := ih hanswer.toSameEngine hrest hrest'
    exact ⟨by rw [hanswer.rspStatus, hanswer.rspData], hend⟩

/-- R23: INIT leaves an engine state that depends only on the constants, `KEY` and `IV`. -/
theorem bodyOf_init_sameAnswer {s s' : State} (d : Block) (hparams : s'.params = s.params) (hkey : s'.key = s.key)
    (hiv : s'.iv = s.iv) (hvalid : s'.keyValid = s.keyValid) : SameAnswer (bodyOf (.init d) s) (bodyOf (.init d) s') := by
  simp only [bodyOf, hparams, hkey, hiv]
  refine SameEngine.respond ?_ _ _
  exact ⟨rfl, hkey, hiv, hvalid, rfl, rfl, rfl, hparams⟩

/-- Settles O35: INIT makes the two engine states the same, and the rest of the commands keep them so. -/
theorem noHiddenSessionState : Obligations.NoHiddenSessionState := by
  rintro d is rs rs' s s' t t' hparams hkey hiv hvalid hvalid' ⟨u, qs, hinit, rfl, hrest⟩ ⟨u', qs', hinit', rfl, hrest'⟩
  obtain rfl : bodyOf (.init d) s = u := by simpa [exec_of_allowed (.init d hvalid)] using hinit
  obtain rfl : bodyOf (.init d) s' = u' := by simpa [exec_of_allowed (.init d hvalid')] using hinit'
  have hanswer := bodyOf_init_sameAnswer d hparams hkey hiv (hvalid'.trans hvalid.symm)
  obtain ⟨rfl, hend⟩ := hanswer.toSameEngine.performs hrest hrest'
  exact ⟨by rw [hanswer.rspStatus, hanswer.rspData], hend.lanes, hend.phase, hend.adCount, hend.msgCount, hend.key, hend.iv, hend.keyValid⟩

/-! ### What cannot be read (R22, R32, R35) -/

/-- Settles O36: without a key only STATUS and LOAD_KEYIV are allowed, and their rules read none of the three. -/
theorem keylessReadsNothing : Obligations.KeylessReadsNothing := by
  intro i key iv l s t t' hkeyless hexec hexec'
  obtain ⟨e, rfl, rfl⟩ | ⟨hallowed, rfl, rfl⟩ := exec_cases_two hexec hexec' rfl rfl
  · exact ⟨rfl, fun hkey => absurd hkey (ne_true_of_eq_false hkeyless)⟩
  · cases hallowed with
    | status => exact ⟨rfl, fun hkey => absurd hkey (ne_true_of_eq_false hkeyless)⟩
    | loadKeyIv => exact ⟨rfl, fun _ => ⟨rfl, rfl⟩⟩
    | init _ hkey | absorbAd _ hkey | encrypt _ hkey | decrypt _ hkey | finalize _ hkey =>
      exact absurd hkey (ne_true_of_eq_false hkeyless)

/-- Settles O37: in IDLE and DONE only STATUS, LOAD_KEYIV and INIT are allowed; their rules read no lane, and INIT, the only way to AD, writes every lane. -/
theorem noSessionReadsNoLane : Obligations.NoSessionReadsNoLane := by
  intro i l s t t' hidle hexec hexec'
  have hnotAd : s.phase ≠ .ad := by rintro h; simp [h] at hidle
  obtain ⟨e, rfl, rfl⟩ | ⟨hallowed, rfl, rfl⟩ := exec_cases_two hexec hexec' rfl rfl
  · exact ⟨rfl, fun hphase => absurd hphase hnotAd⟩
  · cases hallowed with
    | status => exact ⟨rfl, fun hphase => absurd hphase hnotAd⟩
    | loadKeyIv => exact ⟨rfl, fun hphase => nomatch hphase⟩
    | init => exact ⟨rfl, fun _ => rfl⟩
    | absorbAd _ _ hphase => exact absurd hphase hnotAd
    | encrypt _ _ hphase | decrypt _ _ hphase | finalize _ _ hphase =>
      obtain h | h := hidle <;> simp [h] at hphase

/-- Settles O38: an error, STATUS, LOAD_KEYIV, INIT and ABSORB_AD answer from none of the three. -/
theorem otherResponsesCarryNoSecret : Obligations.OtherResponsesCarryNoSecret := by
  intro i key iv l s t t' hother hexec hexec'
  obtain ⟨e, rfl, rfl⟩ | ⟨hallowed, rfl, rfl⟩ := exec_cases_two hexec hexec' rfl rfl
  · exact ⟨rfl, rfl⟩
  · cases hallowed with
    | encrypt | decrypt | finalize => simp [Instr.opcode] at hother
    | status | loadKeyIv => exact ⟨rfl, rfl⟩
    | init | absorbAd => simp [bodyOf]

/-! ### The values after reset (R34) -/

/-- Settles O42: the five fields of `State.afterReset`. -/
theorem resetValues : Obligations.ResetValues := ⟨rfl, rfl, rfl, rfl, rfl⟩

/-- R107: the two constants differ, whatever the open choices behind them are. -/
theorem config_params_distinct : Config.params.Distinct := by
  change Config.z0 ≠ Config.z1
  unfold Config.z1
  split
  · intro hsame
    have hbit : Config.z0.getLsbD 0 = (~~~Config.z0).getLsbD 0 := congrArg (·.getLsbD 0) hsame
    simp at hbit
  · next hdiffer => exact fun hsame => hdiffer hsame.symm

/-- R34, R231, R232: a reset leaves the invariant, where the constants differ and the delay is within `LAT_RESET`. -/
theorem inv_afterReset {p : Params} {wait : Nat} (hdistinct : p.Distinct) (hwait : wait ≤ p.latReset)
    (inputs : List Pins) (delays : List Nat) (draws : Nat) : Inv (State.afterReset p wait inputs delays draws) where
  keyless_idle _ := rfl
  idle_counts _ := ⟨rfl, rfl⟩
  ad_count h := nomatch h
  one_command h := nomatch h
  ready_first _ := ⟨rfl, rfl⟩
  ready_bound := hwait
  wait_bound _ h := nomatch h
  code_range h := nomatch h
  distinct := hdistinct

/-- Settles O39: the delay drawn at reset is a remainder, so it is within `LAT_RESET`. -/
theorem resetMeetsInvariant : Obligations.ResetMeetsInvariant :=
  inv_afterReset config_params_distinct (Nat.le_of_lt_succ (Nat.mod_lt _ (Nat.succ_pos _))) _ _ _

/-! ### Every edge keeps the invariant -/

/-- The part of the invariant about the session (R26, R27, R28). -/
structure SessionInv (s : State) : Prop where
  keyless_idle : s.keyValid = false → s.phase = .idle
  idle_counts : s.phase = .idle → s.adCount = 0#64 ∧ s.msgCount = 0#64
  ad_count : s.phase = .ad → s.msgCount = 0#64

/-- The part of the invariant about the ports and the busy state (R75, R232, R236, R237). -/
structure PortInv (s : State) : Prop where
  one_command : s.rspPending = true → s.inFlight = none
  ready_first : s.readyWait ≠ 0 → s.rspPending = false ∧ s.inFlight = none
  ready_bound : s.readyWait ≤ s.params.latReset
  wait_bound : ∀ f, s.inFlight = some f → f.wait < latOf s.params (opField f.command)
  code_range : s.rspPending = true → s.rspStatus.toNat ≤ 3

theorem inv_iff {s : State} : Inv s ↔ SessionInv s ∧ PortInv s ∧ s.params.Distinct where
  mp h := ⟨{ h with }, { h with }, h.distinct⟩
  mpr := fun ⟨hsession, hport, hdistinct⟩ => { hsession, hport with distinct := hdistinct }

theorem SessionInv.of_sameEngine {s t : State} (h : SessionInv s) (hsame : SameEngine s t) : SessionInv t where
  keyless_idle := by simpa only [hsame.keyValid, hsame.phase] using h.keyless_idle
  idle_counts := by simpa only [hsame.phase, hsame.adCount, hsame.msgCount] using h.idle_counts
  ad_count := by simpa only [hsame.phase, hsame.msgCount] using h.ad_count

/-- An edge that keeps the engine's state keeps the invariant if it keeps the part about the ports. -/
theorem inv_of_sameEngine {s t : State} (h : Inv s) (hsame : SameEngine s t) (hport : PortInv t) : Inv t := by
  obtain ⟨hsession, -, hdistinct⟩ := inv_iff.mp h
  exact inv_iff.mpr ⟨hsession.of_sameEngine hsame, hport, hsame.params ▸ hdistinct⟩

/-- R26, R27, R28: every command keeps the agreement of key, phase and counters. -/
theorem exec_sessionInv {i : Instr} {s t : State} (hs : SessionInv s) (h : exec i s = .next t) : SessionInv t := by
  obtain ⟨e, -, rfl⟩ | ⟨hallowed, rfl⟩ := exec_cases h
  · exact { hs with }
  · cases hallowed with
    | status => exact { hs with }
    | loadKeyIv => exact ⟨fun _ => rfl, fun _ => ⟨rfl, rfl⟩, fun _ => rfl⟩
    | init _ hkey => exact ⟨fun hno => absurd hkey (ne_true_of_eq_false hno), (nomatch ·), fun _ => rfl⟩
    | absorbAd _ hkey hphase =>
      exact ⟨hs.keyless_idle, fun hidle => absurd (hphase.symm.trans hidle) (by decide), hs.ad_count⟩
    | encrypt _ hkey | decrypt _ hkey | finalize _ hkey =>
      exact ⟨fun hno => absurd hkey (ne_true_of_eq_false hno), (nomatch ·), (nomatch ·)⟩

/-- R33, R55, R75: the edge that performs a command leaves its response pending with a code of R75 and nothing in flight; the engine was ready before. -/
theorem portInv_of_answers {s t : State} (hs : Inv s) (hbusy : s.inFlight ≠ none) (h : Answers (performEdge s) t) :
    PortInv t where
  one_command _ := h.inFlight
  ready_first hwait := absurd (hs.ready_first (h.readyWait ▸ hwait)).2 hbusy
  ready_bound := by rw [h.readyWait, h.params]; exact hs.ready_bound
  wait_bound f hf := by rw [h.inFlight] at hf; cases hf
  code_range _ := by obtain ⟨e, he⟩ := h.rspStatus; rw [he]; exact rspCodeBits_le e

/-- R33: performing the command in flight keeps the invariant. -/
theorem inv_of_exec {i : Instr} {s t : State} (hs : Inv s) (hbusy : s.inFlight ≠ none)
    (h : exec i (performEdge s) = .next t) : Inv t := by
  obtain ⟨hsession, -, hdistinct⟩ := inv_iff.mp hs
  have hanswers := exec_answers_frame h
  exact inv_iff.mpr ⟨exec_sessionInv (s := performEdge s) { hsession with } h, portInv_of_answers hs hbusy hanswers,
    hanswers.params ▸ hdistinct⟩

theorem inv_resetEdge {s : State} (hs : Inv s) : Inv (resetEdge s) :=
  inv_afterReset hs.distinct (Nat.le_of_lt_succ (Nat.mod_lt _ (Nat.succ_pos _))) _ _ _

/-- R236: an edge with a response pending keeps it or takes it, and accepts nothing. -/
theorem inv_responseEdge {s : State} (hs : Inv s) (hpend : s.rspPending = true) : Inv (responseEdge s) :=
  inv_of_sameEngine hs (responseEdge_sameEngine s)
    { one_command := fun _ => hs.one_command hpend
      ready_first := fun hwait => absurd hpend (ne_true_of_eq_false (hs.ready_first hwait).1)
      ready_bound := hs.ready_bound
      wait_bound := hs.wait_bound
      code_range := fun _ => hs.code_range hpend }

/-- R237: a command that waits has one edge fewer to go. -/
theorem inv_waitEdge {s : State} {f : InFlight} (hs : Inv s) (hpend : s.rspPending = false)
    (hfly : s.inFlight = some f) : Inv (waitEdge f s) :=
  inv_of_sameEngine hs (waitEdge_sameEngine f s)
    { one_command := fun h => absurd h (ne_true_of_eq_false hpend)
      ready_first := fun hwait => absurd (hfly.symm.trans (hs.ready_first hwait).2) (by simp)
      ready_bound := hs.ready_bound
      wait_bound := by rintro _ ⟨⟩; exact (Nat.sub_le _ _).trans_lt (hs.wait_bound f hfly)
      code_range := fun h => absurd h (ne_true_of_eq_false hpend) }

/-- R236: what `cmd_ready` says of the state. -/
theorem cmdReady_eq_true {s : State} : cmdReady s = true ↔ s.rspPending = false ∧ s.inFlight = none ∧ s.readyWait = 0 := by
  simp [cmdReady, and_assoc]

/-- R237: the latency drawn for an opcode is within `LAT(op)`. -/
theorem latencyOf_sub_one_lt (s : State) (op : Opcode) : latencyOf s op - 1 < latOf s.params op :=
  Nat.mod_lt _ (Nat.succ_pos _)

/-- R51, R237: the command accepted waits within its bound, and the engine was ready. -/
theorem portInv_acceptEdge {s : State} (hs : Inv s) (hready : cmdReady s = true) : PortInv (acceptEdge s) := by
  obtain ⟨hpend, -, hwait⟩ := cmdReady_eq_true.mp hready
  exact
    { one_command := fun h => absurd h (ne_true_of_eq_false hpend)
      ready_first := fun h => absurd hwait h
      ready_bound := hs.ready_bound
      wait_bound := by
        rintro _ ⟨⟩
        rw [OpcodeField.opField_transaction]
        exact latencyOf_sub_one_lt s _
      code_range := fun h => absurd h (ne_true_of_eq_false hpend) }

/-- R51, R232: an edge with nothing pending and nothing in flight accepts, idles, or counts the delay after reset. -/
theorem inv_commandEdge {s : State} (hs : Inv s) (hpend : s.rspPending = false) (hnone : s.inFlight = none) :
    Inv (commandEdge s) := by
  refine inv_of_sameEngine hs (commandEdge_sameEngine s) ?_
  obtain ⟨hready, -, haccept⟩ | ⟨-, -, hidle⟩ | ⟨-, hdelay⟩ := commandEdge_cases s
  · rw [haccept]
    exact portInv_acceptEdge hs hready
  · rw [hidle]
    exact { hs with }
  · rw [hdelay]
    exact { hs with
      ready_first := fun _ => ⟨hpend, hnone⟩
      ready_bound := (Nat.sub_le _ _).trans hs.ready_bound }

/-- Settles O40: the five things an edge can do, each of which keeps the invariant. -/
theorem everyEdgeKeepsInvariant : Obligations.EveryEdgeKeepsInvariant := by
  intro s t hs hstep
  obtain ⟨-, rfl⟩ | ⟨-, hpend, rfl⟩ | ⟨f, -, -, hfly, -, hexec⟩ | ⟨f, -, hpend, hfly, -, rfl⟩ | ⟨-, hpend, hnone, rfl⟩ :=
    step_cases hstep
  · exact inv_resetEdge hs
  · exact inv_responseEdge hs hpend
  · exact inv_of_exec hs (by simp [hfly]) hexec
  · exact inv_waitEdge hs hpend hfly
  · exact inv_commandEdge hs hpend hnone

/-! ### The edge that performs a command (R25, R33, R55) -/

/-- R33, R55: at the edge that performs `f` the step is `exec` of it. -/
theorem step_of_performing {s : State} {f : InFlight} (h : Performing s f) :
    step s = exec (decode f.command) (performEdge s) := by
  obtain ⟨hrst, hpend, hfly, hwait⟩ := h
  simp [step, hrst, hpend, hfly, hwait]

/-- Settles O45: `performEdge` is the state the statement writes out. -/
theorem stepRunsDecodedCommand : Obligations.StepRunsDecodedCommand :=
  fun _ _ hperf => step_of_performing hperf

/-- R203: for the commands that are not reserved, `legal` is having an entry in the session table. -/
theorem legal_eq_isSome_sessionTable {i : Instr} (ph : Phase) (hres : isReserved i.opcode = false) :
    legal ph i.opcode = (sessionTable i ph).isSome := by
  cases i with
  | status | loadKeyIv | init | absorbAd | encrypt | decrypt | finalize => cases ph <;> rfl
  | _ => simp [isReserved, Instr.opcode] at hres

/-- R78: the code of a response, in the order of the checks. -/
theorem codeOf_eq_checks (i : Instr) (s : State) :
    codeOf i s = if isReserved i.opcode then 0x1#4 else if needsKey i.opcode && !s.keyValid then 0x2#4
      else if !legal s.phase i.opcode then 0x3#4 else 0x0#4 := by
  cases hres : isReserved i.opcode with
  | true => simp [codeOf, of_decide_eq_true hres]
  | false =>
    rw [legal_eq_isSome_sessionTable s.phase hres]
    simp [codeOf, of_decide_eq_false hres, needsKey, and_assoc]

/-- R11: the rule of an allowed command answers OK. -/
theorem Allowed.bodyOf_rspStatus {i : Instr} {s : State} (h : Allowed i s) : (bodyOf i s).rspStatus = 0x0#4 := by
  cases h <;> rfl

/-- R205: the status of a command's response is the first code that applies. -/
theorem exec_rspStatus {i : Instr} {s t : State} (h : exec i s = .next t) : t.rspStatus = codeOf i s := by
  rw [exec_eq_perform] at h
  rw [codeOf_eq_checks]
  obtain ⟨hres, rfl⟩ | ⟨hres, hneeds, hkey, rfl⟩ | ⟨hres, hkey, hlegal, rfl⟩ | ⟨hres, hkey, hlegal, rfl⟩ := perform_cases h
  · simp [hres, rspCodeBits]
  · simp [hres, hneeds, hkey, rspCodeBits]
  · simp [hres, keyCheck_passes hkey, hlegal, rspCodeBits]
  · simp [hres, keyCheck_passes hkey, hlegal, (allowed_of_checks hres hkey hlegal).bodyOf_rspStatus]

/-- An edge with nothing pending and nothing in flight produces no response. -/
theorem commandEdge_rspPending (s : State) : (commandEdge s).rspPending = s.rspPending := by
  obtain ⟨-, -, h⟩ | ⟨-, -, h⟩ | ⟨-, h⟩ := commandEdge_cases s <;> rw [h] <;> rfl

/-- Settles O51: of the five things an edge can do, only performing a command raises `RSP_PENDING`. -/
theorem responsesComeFromCommands : Obligations.ResponsesComeFromCommands := by
  intro s t hstep hbefore hafter
  obtain ⟨-, rfl⟩ | ⟨-, hpend, -⟩ | ⟨f, hrst, hpend, hfly, hwait, hexec⟩ | ⟨f, -, -, -, -, rfl⟩ | ⟨-, -, -, rfl⟩ :=
    step_cases hstep
  · cases hafter
  · exact absurd hpend (ne_true_of_eq_false hbefore)
  · exact ⟨f, ⟨hrst, hpend, hfly, hwait⟩, (exec_answers_frame hexec).inFlight, exec_rspStatus hexec⟩
  · exact absurd hafter (ne_true_of_eq_false hbefore)
  · rw [commandEdge_rspPending] at hafter
    exact absurd hafter (ne_true_of_eq_false hbefore)

/-- R25: an edge keeps `KEY_VALID`, or performs a LOAD_KEYIV, or is a reset. -/
theorem step_keyValid_cases {s t : State} (h : step s = .next t) :
    t.keyValid = s.keyValid ∨
    (∃ f key iv, Performing s f ∧ decode f.command = .loadKeyIv key iv ∧ t.key = key ∧ t.iv = iv ∧ t.keyValid = true) ∨
    ((sampledPins s).rst = true ∧ t.keyValid = false) := by
  cases hrst : (sampledPins s).rst with
  | true =>
    simp only [step, hrst, if_true, Host.Outcome.next.injEq] at h
    exact .inr (.inr ⟨rfl, h ▸ rfl⟩)
  | false =>
    by_cases hperf : ∃ f, Performing s f
    · obtain ⟨f, hf⟩ := hperf
      obtain ⟨-, -, hkept⟩ | ⟨key, iv, hload⟩ := exec_key_cases (step_of_performing hf ▸ h)
      · exact .inl hkept
      · exact .inr (.inl ⟨f, key, iv, hf, hload⟩)
    · exact .inl (step_sameEngine hrst (not_exists.mp hperf) h).keyValid

/-- Settles O52: the three cases of `step_keyValid_cases`. -/
theorem keyValidRises : Obligations.KeyValidRises := by
  intro s t hstep
  obtain hkept | ⟨f, key, iv, hperf, hdecode, hkey, hiv, hvalid⟩ | ⟨hrst, hcleared⟩ := step_keyValid_cases hstep
  · simp +contextual [hkept]
  · exact ⟨fun _ _ => ⟨f, key, iv, hperf, hdecode, hkey, hiv⟩, fun _ hfalls => absurd hvalid (ne_true_of_eq_false hfalls)⟩
  · exact ⟨fun _ hrises => absurd hrises (ne_true_of_eq_false hcleared), fun _ _ => hrst⟩

end Sys2Proof.Proofs
end

section
/-!
SUPPORT. Proofs of the statements of 20_memory.md: LOAD_KEYIV, INIT and STATUS repeated (R56), and the acceptance of a command (R51).
-/
namespace Sys2Proof.Proofs
open Sys2Proof.Machine Sys2Proof.Safety Sys2Proof.Laws

/-! ### A command performed twice in a row (R56) -/

/-- R204: a refused command left `KEY_VALID` and `PHASE` as they were, so its repetition is refused in the same way. -/
theorem exec_again_of_refused {i : Instr} {e : RspCode} {s : State} (herror : e ≠ .ok)
    (h : exec i s = .next (raise e s)) : exec i (raise e s) = .next (raise e s) := by
  obtain ⟨u, hu⟩ := exec_answers i (raise e s)
  obtain ⟨e', hfirst, rfl⟩ | ⟨hallowed, hbody, -⟩ := exec_cases_two h hu rfl rfl
  · have hoverwrite : raise e' (raise e s) = raise e' s := rfl
    rw [hu, hoverwrite, hfirst]
  · have hok : (raise e s).rspStatus = 0x0#4 := hbody ▸ hallowed.bodyOf_rspStatus
    exact absurd (rspCodeBits_eq_zero hok) herror

/-- R56: a command whose rule keeps it allowed and is idempotent leaves, performed twice, what it leaves once. -/
theorem exec_again {i : Instr} {s t : State} (hstays : Allowed i s → Allowed i (bodyOf i s))
    (hidem : bodyOf i (bodyOf i s) = bodyOf i s) (h : exec i s = .next t) : exec i t = .next t := by
  obtain ⟨e, herror, rfl⟩ | ⟨hallowed, rfl⟩ := exec_cases h
  · exact exec_again_of_refused herror h
  · rw [exec_of_allowed (hstays hallowed), hidem]

/-- Settles O29: the three rules read nothing that they write, and INIT writes neither `KEY_VALID` nor what it loads from. -/
theorem repeatingIsPerformingOnce : Obligations.RepeatingIsPerformingOnce := by
  intro d d' key iv s t
  have hinitIgnores : exec (.init d') t = exec (.init d) t := rfl
  have hstatusIgnores : exec (.status d') t = exec (.status d) t := rfl
  rw [hinitIgnores, hstatusIgnores]
  refine ⟨exec_again (fun _ => .loadKeyIv key iv) rfl, exec_again ?_ rfl, exec_again (fun _ => .status d) rfl⟩
  intro hallowed
  cases hallowed with
  | init _ hkey => exact .init d hkey

/-! ### The edge that accepts a command (R51) -/

/-- R51: the three conditions of acceptance. -/
theorem accepts_eq_true {s : State} :
    accepts s = true ↔ (sampledPins s).rst = false ∧ (sampledPins s).cmdValid = true ∧ cmdReady s = true := by
  simp [accepts, and_assoc]

/-- R236: nothing is accepted while a command is in flight. -/
theorem accepts_eq_false_of_inFlight {s : State} {f : InFlight} (hfly : s.inFlight = some f) : accepts s = false := by
  simp [accepts, cmdReady, hfly]

/-- R51: an edge that accepts does nothing else. -/
theorem step_of_accepts {s : State} (h : accepts s = true) : step s = .next (acceptEdge s) := by
  obtain ⟨hrst, hvalid, hready⟩ := accepts_eq_true.mp h
  obtain ⟨hpend, hnone, -⟩ := cmdReady_eq_true.mp hready
  simp [step, commandEdge, hrst, hpend, hnone, hready, hvalid]

/-- Settles O47: the engine is ready, so the edge accepts, and the latency drawn is within `LAT(op)`. -/
theorem offeredCommandIsAccepted : Obligations.OfferedCommandIsAccepted := by
  intro s hrst hvalid hpend hnone hwait
  have hready : cmdReady s = true := cmdReady_eq_true.mpr ⟨hpend, hnone, hwait⟩
  exact ⟨_, latencyOf_sub_one_lt s _, _, _, step_of_accepts (accepts_eq_true.mpr ⟨hrst, hvalid, hready⟩)⟩

/-- A command in flight after an edge that found none was accepted at it. -/
theorem accepted_of_commandEdge_inFlight {s : State} {g : InFlight} (hnone : s.inFlight = none)
    (hg : (commandEdge s).inFlight = some g) :
    cmdReady s = true ∧ (sampledPins s).cmdValid = true ∧
      g.command = transaction (sampledPins s).cmdOp (sampledPins s).cmdData := by
  obtain ⟨hready, hvalid, h⟩ | ⟨-, -, h⟩ | ⟨-, h⟩ := commandEdge_cases s <;> rw [h] at hg
  · cases hg
    exact ⟨hready, hvalid, rfl⟩
  · exact nomatch hnone.symm.trans hg
  · exact nomatch hnone.symm.trans hg

/-- Settles O48: of the five things an edge can do, only a waiting edge and an accepting one leave a command in flight. -/
theorem oneCommandInFlight : Obligations.OneCommandInFlight := by
  intro s t g hinv hstep hg
  obtain ⟨-, rfl⟩ | ⟨-, hpend, rfl⟩ | ⟨f, -, -, -, -, hexec⟩ | ⟨f, -, -, hfly, hwait, rfl⟩ | ⟨hrst, hpend, hnone, rfl⟩ :=
    step_cases hstep
  · cases hg
  · exact nomatch (hinv.one_command hpend).symm.trans hg
  · exact nomatch (exec_answers_frame hexec).inFlight.symm.trans hg
  · cases hg
    exact .inl ⟨accepts_eq_false_of_inFlight hfly, f, hfly, rfl, Nat.succ_pred hwait⟩
  · obtain ⟨hready, hvalid, hcommand⟩ := accepted_of_commandEdge_inFlight hnone hg
    exact .inr ⟨accepts_eq_true.mpr ⟨hrst, hvalid, hready⟩, hnone, hpend, hcommand⟩

end Sys2Proof.Proofs
end

section
/-!
SUPPORT. Proofs of the statements of 30_encoding.md about commands and transactions: the decoder and the encoder undo each other (R70 to R74), the commands whose `DATA` is ignored (R71, R201),
and the placed command (R78).
-/
namespace Sys2Proof.Proofs
open Sys2Proof.Machine Sys2Proof.Safety Sys2Proof.Claims Sys2Proof.Laws

/-! ### The fields of a block and of a transaction (R70, R114) -/

@[simp] theorem lowLane_combine (lo hi : Lane) : lowLane (combine lo hi) = lo :=
  BitVec.extractLsb'_append_eq_right

@[simp] theorem highLane_combine (lo hi : Lane) : highLane (combine lo hi) = hi :=
  BitVec.extractLsb'_append_eq_left

/-- R114: a block is made of its two lanes. -/
@[simp] theorem combine_lowLane_highLane (b : Block) : combine (lowLane b) (highLane b) = b :=
  BitVec.extractLsb'_append_extractLsb' (w := 128) (len := 128)

/-- R70: the `DATA` field of `OP || DATA` is `DATA`. -/
theorem dataField_transaction (op : Opcode) (data : Block) : dataField (transaction op data) = data :=
  BitVec.extractLsb'_append_eq_right

/-- R70: a transaction is made of its two fields. -/
@[simp] theorem transaction_opField_dataField (t : Transaction) : transaction (opField t) (dataField t) = t :=
  BitVec.extractLsb'_append_extractLsb' (w := 4) (len := 256)

/-! ### The decoder and the encoder (R70 to R74) -/

/-- R72: the decoder reads the two fields and nothing else. -/
theorem decode_transaction (op : Opcode) (data : Block) : decode (transaction op data) = decodeCommand op data := by
  rw [decode, OpcodeField.opField_transaction, dataField_transaction]

/-- R71, R72: the row a command's own opcode selects is the command; only LOAD_KEYIV splits its `DATA`. -/
theorem decodeCommand_opcode_data (i : Instr) : decodeCommand i.opcode i.data = i := by
  cases i with
  | loadKeyIv key iv => exact congrArg₂ Instr.loadKeyIv (lowLane_combine key iv) (highLane_combine key iv)
  | _ => rfl

/-- Settles O3: the fields of a command's transaction are its opcode and its `DATA`, and these select the command. -/
theorem decodeOfEncode : Obligations.DecodeOfEncode := by
  intro i
  rw [encode, decode_transaction, decodeCommand_opcode_data]

/-- R74: the 16 rows of the decoder; the encoder writes the opcode and the `DATA` of each back. -/
theorem encode_decodeCommand (op : Opcode) (data : Block) : encode (decodeCommand op data) = transaction op data := by
  obtain ⟨⟨n, hn⟩⟩ := op
  interval_cases n
  · rfl
  · exact congrArg (transaction 0x1#4) (combine_lowLane_highLane data)
  all_goals rfl

/-- Settles O4: the transaction is made of the fields the decoder read. -/
theorem encodeOfDecode : Obligations.EncodeOfDecode := by
  intro t
  rw [decode, encode_decodeCommand, transaction_opField_dataField]

/-- Settles O1: `decodeCommand` at each of the 16 values of `OP`. -/
theorem everyOpcodeDecodesToItsRow : Obligations.EveryOpcodeDecodesToItsRow := by
  intro data
  have row (op : Opcode) : decode (op ++ data) = decodeCommand op data := decode_transaction op data
  exact ⟨row 0x0#4, row 0x1#4, row 0x2#4, row 0x3#4, row 0x4#4, row 0x5#4, row 0x6#4, row 0x7#4,
    row 0x8#4, row 0x9#4, row 0xA#4, row 0xB#4, row 0xC#4, row 0xD#4, row 0xE#4, row 0xF#4⟩

/-- R72: the command decoded from `OP || DATA` has opcode `OP`. -/
theorem opcode_decodeCommand (op : Opcode) (data : Block) : (decodeCommand op data).opcode = op :=
  calc (decodeCommand op data).opcode = opField (encode (decodeCommand op data)) :=
        (OpcodeField.opField_transaction _ _).symm
    _ = opField (transaction op data) := congrArg opField (encode_decodeCommand op data)
    _ = op := OpcodeField.opField_transaction op data

/-! ### Commands whose `DATA` is ignored (R71, R73, R201) -/

/-- R201: a reserved opcode is refused before its rule is looked at. -/
theorem exec_of_isReserved {i : Instr} (s : State) (h : isReserved i.opcode = true) :
    exec i s = .next (raise .illegalCmd s) := by
  rw [exec_eq_perform, perform, if_pos h]

/-- R73: from 0x6 up there is FINALIZE, and the reserved opcodes. -/
theorem ignoredData_rows : ∀ op : Opcode, op = 0x0#4 ∨ op = 0x2#4 ∨ 0x6 ≤ op.toNat →
    op = 0x0#4 ∨ op = 0x2#4 ∨ op = 0x6#4 ∨ isReserved op = true := by decide

/-- Settles O24: the rules of STATUS, INIT and FINALIZE do not read `DATA`, and the opcodes above 0x6 are reserved. -/
theorem ignoredDataHasNoEffect : Obligations.IgnoredDataHasNoEffect := by
  intro op d d' s hignored
  have hdecode (data : Block) : decode (op ++ data) = decodeCommand op data := decode_transaction op data
  rw [hdecode, hdecode]
  obtain rfl | rfl | rfl | hreserved := ignoredData_rows op hignored
  · rfl
  · rfl
  · rfl
  · rw [exec_of_isReserved s ((opcode_decodeCommand op d).symm ▸ hreserved),
      exec_of_isReserved s ((opcode_decodeCommand op d').symm ▸ hreserved)]

/-! ### The placed command (R70, R78) -/

/-- Settles O46: the next edge performs the command `withCommand` puts in flight, and consumes the sample put before the others. -/
theorem placedCommandRunsNext : Obligations.PlacedCommandRunsNext :=
  fun s nbits w => step_of_performing (s := s.withFetchWord nbits w) (f := ⟨tableTransaction nbits w, 0⟩) ⟨rfl, rfl, rfl, rfl⟩

end Sys2Proof.Proofs
end

section
/-!
SUPPORT. Proof of the statement of 30_encoding.md about the assembler (R79): the line of any command is assembled to its transaction.
-/
namespace Sys2Proof.Proofs
open Sys2Proof.Machine Sys2Proof.Laws

/-! ### Written lanes and blocks (R9) -/

@[simp] theorem readLane_laneText (x : Lane) : readLane (laneText x) = some x := laneTextReadsBack x

/-- R9: a lane is written in 32 digits. -/
theorem laneText_length (x : Lane) : (laneText x).length = 32 := rfl

/-- R9, R53: a block is read back from its 64 digits. -/
@[simp] theorem readBlock_blockText (b : Block) : readBlock (blockText b) = some b := by
  rw [readBlock, blockText, List.take_left' (laneText_length _), List.drop_left' (laneText_length _)]
  simp

/-! ### The words of a line (R79) -/

/-- A text that the assembler reads as one word: not empty, with no blank and no comment mark in it. -/
def IsWord (w : Text) : Prop := w ≠ [] ∧ ∀ c ∈ w, c ≠ ' ' ∧ c ≠ ';'

section
variable {w : Text} (h : IsWord w)
include h

theorem IsWord.no_blank : ∀ c ∈ w, (c == ' ') = false := fun c hc => beq_false_of_ne (h.2 c hc).1

theorem IsWord.no_comment : ∀ c ∈ w, (c != ';') = true := fun c hc => bne_iff_ne.mpr (h.2 c hc).2

/-- A word alone on its line. -/
theorem IsWord.lineWords_eq : lineWords w = [w] := by
  rw [lineWords, List.takeWhile_eq_self_iff.mpr h.no_comment, List.splitOnP_eq_singleton h.no_blank]
  simp [h.1]

/-- The first word of a line ends at the first blank. -/
theorem IsWord.lineWords_append (rest : Text) : lineWords (w ++ ' ' :: rest) = w :: lineWords rest := by
  have hcut : (w ++ ' ' :: rest).takeWhile (· != ';') = w ++ ' ' :: rest.takeWhile (· != ';') := by
    rw [List.takeWhile_append_of_pos h.no_comment]; rfl
  rw [lineWords, hcut, List.splitOnP_append_cons_of_forall_mem h.no_blank ' ' rfl, List.filter_cons_of_pos (by simp [h.1])]
  rfl

end

/-- A digit is neither a blank nor a comment mark. -/
theorem hexDigit_ne : ∀ v : BitVec 4, hexDigit v ≠ ' ' ∧ hexDigit v ≠ ';' := by decide

theorem isWord_hexDigit (v : BitVec 4) : IsWord [hexDigit v] := by
  simpa [IsWord] using hexDigit_ne v

/-- R9: a written lane is one word. -/
theorem isWord_laneText (x : Lane) : IsWord (laneText x) := by
  refine ⟨List.ne_nil_of_length_eq_add_one (laneText_length x), fun c hc => ?_⟩
  obtain ⟨i, -, hbyte⟩ := List.mem_flatMap.mp hc
  obtain rfl | rfl : c = hexDigit _ ∨ c = hexDigit _ := by simpa [byteText] using hbyte
  · exact hexDigit_ne _
  · exact hexDigit_ne _

theorem IsWord.append {v w : Text} (hv : IsWord v) (hw : IsWord w) : IsWord (v ++ w) :=
  ⟨List.append_ne_nil_of_left_ne_nil hv.1 w, fun c hc => (List.mem_append.mp hc).elim (hv.2 c) (hw.2 c)⟩

/-- R9: a written block is one word. -/
theorem isWord_blockText (b : Block) : IsWord (blockText b) :=
  (isWord_laneText _).append (isWord_laneText _)

/-! ### The line of a command (R79) -/

/-- A line of a mnemonic alone. -/
theorem assembleLine_word {w : Text} (hw : IsWord w) : assembleLine w = assembleWords [w] := by
  rw [assembleLine, hw.lineWords_eq]

/-- A line of a mnemonic and one operand. -/
theorem assembleLine_operand {w a : Text} (hw : IsWord w) (ha : IsWord a) :
    assembleLine (w ++ ' ' :: a) = assembleWords [w, a] := by
  rw [assembleLine, hw.lineWords_append, ha.lineWords_eq]

/-- A line of a mnemonic and two operands. -/
theorem assembleLine_operands {w a b : Text} (hw : IsWord w) (ha : IsWord a) (hb : IsWord b) :
    assembleLine (w ++ ' ' :: (a ++ ' ' :: b)) = assembleWords [w, a, b] := by
  rw [assembleLine, hw.lineWords_append, ha.lineWords_append, hb.lineWords_eq]

/-- R79: `.raw` writes any transaction. -/
theorem assembleLine_rawLine (t : Transaction) : assembleLine (rawLine t) = some t := by
  have hline : assembleLine (rawLine t) = assembleWords [textRaw, [hexDigit (opField t)], blockText (dataField t)] :=
    assembleLine_operands (by simp [IsWord, textRaw]) (isWord_hexDigit _) (isWord_blockText _)
  have hraw : textRaw ≠ textLoadKeyIv := by decide
  simp [hline, assembleWords, hraw]

/-- R79: the line of a mnemonic whose operand is a block. -/
theorem assembleLine_block {w : Text} {op : Opcode} (hw : IsWord w)
    (hmnemonic : ∀ a, assembleWords [w, a] = (readBlock a).map (transaction op)) (b : Block) :
    assembleLine (w ++ ' ' :: blockText b) = some (transaction op b) := by
  rw [assembleLine_operand hw (isWord_blockText b), hmnemonic, readBlock_blockText]
  rfl

/-- R79: the line of LOAD_KEYIV. -/
theorem assembleLine_loadKeyIv (key iv : Lane) :
    assembleLine (textLoadKeyIv ++ ' ' :: (laneText key ++ ' ' :: laneText iv)) =
      some (transaction 0x1#4 (combine key iv)) := by
  rw [assembleLine_operands (by simp [IsWord, textLoadKeyIv]) (isWord_laneText key) (isWord_laneText iv)]
  simp [assembleWords]

/-- R79: each mnemonic line is assembled to the transaction of its command. -/
theorem assembleLine_sourceLine_of_wellFormed {i : Instr} (h : i.wellFormed = true) :
    assembleLine (sourceLine i) = some (encode i) := by
  cases i with
  | status d | init d | finalize d =>
    obtain rfl : d = 0#256 := by simpa [Instr.wellFormed] using h
    rfl
  | loadKeyIv key iv => exact assembleLine_loadKeyIv key iv
  | absorbAd d => exact assembleLine_block (w := textAbsorbAd) (by simp [IsWord, textAbsorbAd]) (fun _ => rfl) d
  | encrypt m => exact assembleLine_block (w := textEncrypt) (by simp [IsWord, textEncrypt]) (fun _ => rfl) m
  | decrypt c => exact assembleLine_block (w := textDecrypt) (by simp [IsWord, textDecrypt]) (fun _ => rfl) c
  | _ => cases h

/-- R79: a command that no mnemonic writes is written with `.raw`. -/
theorem sourceLine_of_not_wellFormed {i : Instr} (h : ¬i.wellFormed = true) : sourceLine i = rawLine (encode i) :=
  if_neg h

/-- Settles O6: the mnemonic line where there is one, and `.raw` for every other command. -/
theorem sourceLineAssembles : Obligations.SourceLineAssembles := by
  intro i
  by_cases h : i.wellFormed = true
  · exact assembleLine_sourceLine_of_wellFormed h
  · rw [sourceLine_of_not_wellFormed h, assembleLine_rawLine]

end Sys2Proof.Proofs
end

section
/-!
SUPPORT. Proof of the statement of 30_encoding.md about the pseudo-operations ENCODE and DECODE (R80): DECODE recovers what ENCODE enciphered (R162, R181).
-/
namespace Sys2Proof.Proofs
open Sys2Proof.Machine Sys2Proof.Safety Sys2Proof.Claims Sys2Proof.Laws

/-! ### The lanes of ENCRYPT and DECRYPT (R109, R160, R161, R162) -/

/-- R109: an advance takes its input in at the head only. -/
theorem advance_eq_set_head {n : Nat} (z0 m : Lane) (t : Vector Lane (n + 2)) :
    advance z0 t m = (advance z0 t 0#128).set 0 ((advance z0 t 0#128)[0] ^^^ m) := by
  ext i hi
  match i with
  | 0 => simp [advance]
  | k + 1 => simp [advance]

/-- R161: patching the heads after a shift is the update that takes the same lanes in. -/
theorem patchHeads_shiftLanes (p : Params) (mLo mHi : Lane) (l : Lanes) :
    patchHeads mLo mHi (shiftLanes p l) = update p mLo mHi (mLo ^^^ mHi) l := by
  rw [update, advance_eq_set_head p.z0 mLo, advance_eq_set_head p.z0 mHi, advance_eq_set_head p.z0 (mLo ^^^ mHi)]
  rfl

/-- R150, R161: absorbing a block is a shift and a patch of the heads. -/
theorem absorbBlock_eq_patchHeads (p : Params) (b : Block) (l : Lanes) :
    absorbBlock p b l = patchHeads (lowLane b) (highLane b) (shiftLanes p l) :=
  (patchHeads_shiftLanes p _ _ l).symm

/-- R113: of the lanes the low keystream lane reads, the patch changes the head of T3 only. -/
theorem keystreamLo_patchHeads (mLo mHi : Lane) (l : Lanes) :
    keystreamLo (patchHeads mLo mHi l) = mLo ^^^ keystreamLo l := by
  have hread : keystreamLo (patchHeads mLo mHi l) =
      l.t3[0] ^^^ mLo ^^^ l.t3[2] ^^^ l.t4[1] ^^^ (l.t6[3] &&& l.t4[3]) := by
    simp [keystreamLo, patchHeads]
  rw [hread, keystreamLo]
  ac_rfl

/-- R113: of the lanes the high keystream lane reads, the patch changes the head of T6 only. -/
theorem keystreamHi_patchHeads (mLo mHi : Lane) (l : Lanes) :
    keystreamHi (patchHeads mLo mHi l) = mHi ^^^ mLo ^^^ keystreamHi l := by
  have hread : keystreamHi (patchHeads mLo mHi l) =
      l.t6[0] ^^^ (mLo ^^^ mHi) ^^^ l.t4[2] ^^^ l.t3[1] ^^^ (l.t6[5] &&& l.t3[2]) := by
    simp [keystreamHi, patchHeads]
  rw [hread, keystreamHi]
  ac_rfl

/-- R161: the same keystream lanes, XORed in again, cancel, and then `m_lo` does in the high lane. -/
theorem messageLanes_cipherBlock (mLo mHi : Lane) (l : Lanes) :
    messageLanes (cipherBlock (patchHeads mLo mHi l)) l = (mLo, mHi) := by
  simp [messageLanes, cipherBlock, keystreamLo_patchHeads, keystreamHi_patchHeads]

/-- R162: DECRYPT of what ENCRYPT answered, from the same lanes, leaves the same lanes and recovers the message block. -/
theorem decryptLanes_cipherBlock (p : Params) (m : Block) (l : Lanes) :
    decryptLanes p (cipherBlock (absorbBlock p m l)) l = (absorbBlock p m l, m) := by
  simp [decryptLanes, absorbBlock_eq_patchHeads, messageLanes_cipherBlock]

/-! ### Sequences of commands that answer OK (R58) -/

/-- R58: a sequence performed after another. -/
theorem performs_append {is js : List Instr} {rs qs : List Response} {s t u : State} (hfirst : Performs s is rs t)
    (hthen : Performs t js qs u) : Performs s (is ++ js) (rs ++ qs) u := by
  induction is generalizing s rs with
  | nil =>
    obtain ⟨rfl, rfl⟩ := hfirst
    exact hthen
  | cons i is ih =>
    obtain ⟨v, rs', hexec, rfl, hrest⟩ := hfirst
    exact ⟨v, rs' ++ qs, hexec, rfl, ih hrest⟩

theorem okAll_append (as bs : List Block) : okAll (as ++ bs) = okAll as ++ okAll bs := List.map_append

/-- A sequence that answers OK, put before another. -/
theorem performs_okAll_append {is js : List Instr} {as bs : List Block} {s t u : State}
    (hfirst : Performs s is (okAll as) t) (hthen : Performs t js (okAll bs) u) :
    Performs s (is ++ js) (okAll (as ++ bs)) u := by
  rw [okAll_append]
  exact performs_append hfirst hthen

/-- An allowed command answers OK; the rest goes on from what its rule leaves. -/
theorem performs_okAll_cons {i : Instr} {is : List Instr} {bs : List Block} {s t : State} (h : Allowed i s)
    (hrest : Performs (bodyOf i s) is (okAll bs) t) : Performs s (i :: is) (okAll ((bodyOf i s).rspData :: bs)) t :=
  ⟨bodyOf i s, okAll bs, exec_of_allowed h, by rw [h.bodyOf_rspStatus]; rfl, hrest⟩

/-! ### ENCODE and DECODE side by side (R80) -/

/-- R132, R150: in a session in AD every associated-data block is absorbed, and the session stays in AD. -/
theorem performs_absorbAd (ad : List Block) {s : State} (hkey : s.keyValid = true) (hphase : s.phase = .ad) :
    ∃ t, Performs s (ad.map .absorbAd) (okAll (ad.map fun _ => 0#256)) t ∧ t.keyValid = true ∧ t.phase = .ad := by
  induction ad generalizing s with
  | nil => exact ⟨s, ⟨rfl, rfl⟩, hkey, hphase⟩
  | cons d ad ih =>
    obtain ⟨t, hrun, hend⟩ := ih (s := bodyOf (.absorbAd d) s) hkey hphase
    exact ⟨t, performs_okAll_cons (.absorbAd d hkey hphase) hrun, hend⟩

/-- The commands that ENCODE and DECODE begin with (R80). -/
def opening (key iv : Lane) (ad : List Block) : List Instr :=
  [.loadKeyIv key iv, .init 0#256] ++ ad.map .absorbAd

/-- The state LOAD_KEYIV and INIT leave. -/
def opened (key iv : Lane) (s : State) : State := bodyOf (.init 0#256) (bodyOf (.loadKeyIv key iv) s)

/-- R80: the opening is answered OK in every state, and ends in AD. -/
theorem performs_opening (key iv : Lane) (ad : List Block) (s : State) :
    ∃ t, Performs (opened key iv s) (ad.map .absorbAd) (okAll (ad.map fun _ => 0#256)) t ∧
      Performs s (opening key iv ad) (okAll ([0#256, 0#256] ++ ad.map fun _ => 0#256)) t ∧
      t.keyValid = true ∧ t.phase = .ad := by
  obtain ⟨t, hrun, hend⟩ := performs_absorbAd ad (s := opened key iv s) rfl rfl
  exact ⟨t, hrun, performs_okAll_cons (.loadKeyIv key iv) (performs_okAll_cons (.init 0#256 rfl) hrun), hend⟩

/-- What an enciphering session `s` and a deciphering session `s'` have in common between two message blocks. -/
structure Paired (s s' : State) : Prop where
  lanes     : s'.lanes = s.lanes
  params    : s'.params = s.params
  adCount   : s'.adCount = s.adCount
  msgCount  : s'.msgCount = s.msgCount
  keyValid  : s.keyValid = true
  keyValid' : s'.keyValid = true
  phase     : s.phase = .ad ∨ s.phase = .enc
  phase'    : s'.phase = .ad ∨ s'.phase = .dec

/-- R23, R80: after the same opening the two sessions are paired, whatever the states before it were. -/
theorem paired_of_opening (key iv : Lane) (ad : List Block) {s s' : State} (hparams : s'.params = s.params) :
    ∃ t t', Performs s (opening key iv ad) (okAll ([0#256, 0#256] ++ ad.map fun _ => 0#256)) t ∧
      Performs s' (opening key iv ad) (okAll ([0#256, 0#256] ++ ad.map fun _ => 0#256)) t' ∧ Paired t t' := by
  obtain ⟨t, hads, hrun, hkey, hphase⟩ := performs_opening key iv ad s
  obtain ⟨t', hads', hrun', hkey', hphase'⟩ := performs_opening key iv ad s'
  have hopened : SameAnswer (opened key iv s) (opened key iv s') := bodyOf_init_sameAnswer 0#256 hparams rfl rfl rfl
  have hsame : SameEngine t t' := (hopened.toSameEngine.performs hads hads').2
  exact ⟨t, t', hrun, hrun',
    { hsame with keyValid := hkey, keyValid' := hkey', phase := .inl hphase, phase' := .inl hphase' }⟩

section
variable {s s' : State} (h : Paired s s')
include h

/-- R162: in paired sessions the rule of DECRYPT, on the ciphertext block, leaves the lanes and answers the message block of the rule of ENCRYPT. -/
theorem Paired.decryptLanes_eq (m : Block) :
    decryptLanes s'.params (bodyOf (.encrypt m) s).rspData s'.lanes = ((bodyOf (.encrypt m) s).lanes, m) := by
  rw [h.params, h.lanes]
  exact decryptLanes_cipherBlock s.params m s.lanes

/-- R162: DECRYPT of the ciphertext block answers the message block. -/
theorem Paired.decrypt_rspData (m : Block) :
    (bodyOf (.decrypt (bodyOf (.encrypt m) s).rspData) s').rspData = m :=
  congrArg Prod.snd (h.decryptLanes_eq m)

/-- R162: ENCRYPT of a message block and DECRYPT of its ciphertext keep the sessions paired. -/
theorem Paired.encrypt_decrypt (m : Block) :
    Paired (bodyOf (.encrypt m) s) (bodyOf (.decrypt (bodyOf (.encrypt m) s).rspData) s') :=
  { h with
    lanes := congrArg Prod.fst (h.decryptLanes_eq m)
    msgCount := congrArg (· + 1#64) h.msgCount
    phase := .inr rfl
    phase' := .inr rfl }

/-- R162: the message blocks enciphered one after another in one session are recovered in the other. -/
theorem Paired.performs_messages (ms : List Block) :
    ∃ cs t t', cs.length = ms.length ∧ Performs s (ms.map .encrypt) (okAll cs) t ∧
      Performs s' (cs.map .decrypt) (okAll ms) t' ∧ Paired t t' := by
  induction ms generalizing s s' with
  | nil => exact ⟨[], s, s', rfl, ⟨rfl, rfl⟩, ⟨rfl, rfl⟩, h⟩
  | cons m ms ih =>
    obtain ⟨cs, t, t', hlength, henc, hdec, hend⟩ := ih (h.encrypt_decrypt m)
    have hrun := performs_okAll_cons (.decrypt _ h.keyValid' h.phase') hdec
    rw [h.decrypt_rspData m] at hrun
    exact ⟨_ :: cs, t, t', congrArg (· + 1) hlength, performs_okAll_cons (.encrypt m h.keyValid h.phase) henc, hrun, hend⟩

/-- R181: FINALIZE leaves the same lanes and answers the same tag in paired sessions. -/
theorem Paired.finalize (d : Block) :
    (bodyOf (.finalize d) s').lanes = (bodyOf (.finalize d) s).lanes ∧
      (bodyOf (.finalize d) s').rspData = (bodyOf (.finalize d) s).rspData := by
  simp [bodyOf, h.lanes, h.params, h.adCount, h.msgCount]

/-- R180: FINALIZE is allowed in both sessions. -/
theorem Paired.allowed_finalize (d : Block) : Allowed (.finalize d) s ∧ Allowed (.finalize d) s' :=
  ⟨.finalize d h.keyValid (h.phase.imp_right .inl), .finalize d h.keyValid' (h.phase'.imp_right .inr)⟩

/-- R80: the last command of both sequences. -/
theorem Paired.performs_finalize (d : Block) : ∃ tag,
    Performs s [.finalize d] (okAll [tag]) (bodyOf (.finalize d) s) ∧
      Performs s' [.finalize d] (okAll [tag]) (bodyOf (.finalize d) s') := by
  obtain ⟨hallowed, hallowed'⟩ := h.allowed_finalize d
  have hrun' := performs_okAll_cons (is := []) (bs := []) hallowed' ⟨rfl, rfl⟩
  rw [(h.finalize d).2] at hrun'
  exact ⟨_, performs_okAll_cons hallowed ⟨rfl, rfl⟩, hrun'⟩

end

/-- Settles O34: the openings pair the two sessions, the messages keep them paired, and FINALIZE answers one tag. -/
theorem decodeUndoesEncode : Obligations.DecodeUndoesEncode := by
  intro key iv ad ms s s' hparams
  obtain ⟨t, t', hopen, hopen', hpaired⟩ := paired_of_opening key iv ad hparams
  obtain ⟨cs, u, u', hlength, henc, hdec, hpaired⟩ := hpaired.performs_messages ms
  obtain ⟨tag, hfin, hfin'⟩ := hpaired.performs_finalize 0#256
  exact ⟨cs, tag, _, _, hlength, performs_okAll_append (performs_okAll_append hopen henc) hfin,
    performs_okAll_append (performs_okAll_append hopen' hdec) hfin',
    (hpaired.finalize 0#256).1, hpaired.adCount, hpaired.msgCount, rfl, rfl⟩

end Sys2Proof.Proofs
end

section
/-!
SUPPORT. Proofs of the statements of 40_datapath.md: the S-box (R103), the AES round (R102 to R106), the register update (R108 to R110), the length word (R112), split and combine (R114), and that no
command writes the constants (R107).
-/
namespace Sys2Proof.Proofs
open Sys2Proof.Machine Sys2Proof.Claims Sys2Proof.Laws

/-! ### The S-box (R103) -/

/-- The inverse of the affine map `A` of R103. -/
def affineInv (b : Byte) : Byte := b.rotateLeft 1 ^^^ b.rotateLeft 3 ^^^ b.rotateLeft 6 ^^^ 0x05#8

theorem affine_affineInv : ∀ b : Byte, affine (affineInv b) = b := by decide

/-- R103: the 255 entries of the table at a nonzero byte, each read back through the affine map, are inverses in GF(2^8). -/
theorem gfMul_affineInv_sbox : ∀ x : Byte, x ≠ 0#8 → gfMul x (affineInv (sbox x)) = 0x01#8 := by decide

theorem affineInv_sbox_zero : affineInv (sbox 0#8) = 0#8 := by decide

/-- Settles O7: the table entry, read back through the affine map, is the inverse. -/
theorem sboxIsAffineOfInverse : Obligations.SboxIsAffineOfInverse := by
  intro x
  refine ⟨affineInv (sbox x), ?_, (affine_affineInv (sbox x)).symm⟩
  by_cases hx : x = 0#8
  · subst hx
    exact .inl ⟨rfl, affineInv_sbox_zero⟩
  · exact .inr ⟨hx, gfMul_affineInv_sbox x hx⟩

/-! ### The AES round, byte by byte (R102 to R106) -/

/-- R102: the state bytes of the lane made of the state `f`. -/
theorem stateByte_laneOfState (f : Nat → Nat → Byte) {r c : Nat} (hr : r < 4) (hc : c < 4) :
    stateByte (laneOfState f) r c = f r c := by
  have hrow : (r + 4 * c) % 4 = r := by omega
  have hcol : (r + 4 * c) / 4 = c := by omega
  rw [stateByte, laneOfState, laneByte_laneOfBytes _ _ (by omega), hrow, hcol]

/-- R103: SubBytes substitutes every state byte. -/
theorem stateByte_subBytes (a : Lane) {r c : Nat} (hr : r < 4) (hc : c < 4) :
    stateByte (subBytes a) r c = sbox (stateByte a r c) :=
  laneByte_laneOfBytes _ _ (by omega)

/-- R106: the key is XORed in byte by byte. -/
theorem stateByte_xor (a k : Lane) (r c : Nat) : stateByte (a ^^^ k) r c = stateByte a r c ^^^ stateByte k r c :=
  BitVec.extractLsb'_xor

/-- R103, R104: row `r` of column `c` after SubBytes and ShiftRows. -/
def shiftedByte (a : Lane) (c r : Nat) : Byte := sbox (stateByte a r ((c + r) % 4))

theorem stateByte_shiftRows_subBytes (a : Lane) {r c : Nat} (hr : r < 4) (hc : c < 4) :
    stateByte (shiftRows (subBytes a)) r c = shiftedByte a c r := by
  rw [shiftRows, stateByte_laneOfState _ hr hc, stateByte_subBytes a hr (Nat.mod_lt _ (by decide)), shiftedByte]

/-- R106: a state byte of the round mixes the column of the shifted bytes, and the key is XORed in. -/
theorem stateByte_aesRound (a k : Lane) {r c : Nat} (hr : r < 4) (hc : c < 4) :
    stateByte (aesRound a k) r c =
      mixColumn (shiftedByte a c 0) (shiftedByte a c 1) (shiftedByte a c 2) (shiftedByte a c 3) r ^^^ stateByte k r c := by
  have hsub (r : Nat) (hr : r < 4) := stateByte_shiftRows_subBytes a hr hc
  rw [aesRound, stateByte_xor, mixColumns, stateByte_laneOfState _ hr hc, hsub 0 (by decide), hsub 1 (by decide),
    hsub 2 (by decide), hsub 3 (by decide)]

/-- R102: the bytes of column `c` stand from byte `4c` on. -/
theorem laneByte_column (x : Lane) (c r : Nat) : laneByte x (4 * c + r) = stateByte x r c := by
  rw [stateByte, Nat.add_comm]

/-- Settles O8: the four rows of column `c`. -/
theorem roundByBytes : Obligations.RoundByBytes := by
  intro a k c hc
  have hrow (r : Nat) (hr : r < 4) : laneByte (aesRound a k) (4 * c + r) =
      mixColumn (shiftedByte a c 0) (shiftedByte a c 1) (shiftedByte a c 2) (shiftedByte a c 3) r ^^^
        laneByte k (4 * c + r) := by
    rw [laneByte_column, laneByte_column, stateByte_aesRound a k hr hc]
  exact ⟨hrow 0 (by decide), hrow 1 (by decide), hrow 2 (by decide), hrow 3 (by decide)⟩

/-! ### The register update (R108 to R110) -/

/-- Settles O10: by the law DECRYPT's head patch rests on. -/
theorem advanceInjectsOnlyAtHead : Obligations.AdvanceInjectsOnlyAtHead :=
  fun _ z0 m t => advance_eq_set_head z0 m t

/-- R108: an advance is the register with these lanes. -/
theorem advance_eq_of_lanes {n : Nat} {z0 m : Lane} {t v : Vector Lane (n + 2)} (hhead : v[0] = aesRound t[n + 1] t[0] ^^^ m)
    (hsecond : v[1] = aesRound t[0] z0) (hshift : ∀ (i : Nat) (hi : i < n), v[i + 2] = t[i + 1]) :
    advance z0 t m = v := by
  ext i hi
  match i with
  | 0 => rw [advance_head, hhead]
  | 1 => rw [advance_second, hsecond]
  | i + 2 => rw [advance_shift z0 m t i (by omega), hshift i (by omega)]

theorem advance_eq_advanced3 (z0 m : Lane) (t : Vector Lane 3) : advance (n := 1) z0 t m = advanced3 z0 m t :=
  advance_eq_of_lanes rfl rfl fun i hi => by interval_cases i; rfl

theorem advance_eq_advanced4 (z0 m : Lane) (t : Vector Lane 4) : advance (n := 2) z0 t m = advanced4 z0 m t :=
  advance_eq_of_lanes rfl rfl fun i hi => by interval_cases i <;> rfl

theorem advance_eq_advanced6 (z0 m : Lane) (t : Vector Lane 6) : advance (n := 4) z0 t m = advanced6 z0 m t :=
  advance_eq_of_lanes rfl rfl fun i hi => by interval_cases i <;> rfl

/-- Settles O9: the advances of the registers of capacity 3, 4 and 6. -/
theorem updateLaneByLane : Obligations.UpdateLaneByLane := by
  intro p m0 m1 m2 l
  rw [update, advance_eq_advanced3, advance_eq_advanced4, advance_eq_advanced6, updated]

/-! ### The length word (R112) -/

/-- R112: 64 zero bits above the count. -/
theorem lengthWord_eq_append (n : Count) : lengthWord n = 0#64 ++ n :=
  BitVec.setWidth_eq_append (by decide)

theorem lengthWord_xor (a b : Count) : lengthWord a ^^^ lengthWord b = lengthWord (a ^^^ b) :=
  BitVec.setWidth_xor.symm

/-- R112: a byte of the low half is that byte of the count. -/
theorem laneByte_lengthWord_low (n : Count) {i : Nat} (hi : i < 8) :
    laneByte (lengthWord n) i = n.extractLsb' (8 * i) 8 := by
  rw [laneByte, lengthWord_eq_append]
  exact BitVec.extractLsb'_append_eq_of_add_le (by omega)

/-- R112: a byte of the high half is 0. -/
theorem laneByte_lengthWord_high (n : Count) {i : Nat} (hi : 8 ≤ i) : laneByte (lengthWord n) i = 0#8 := by
  rw [laneByte, lengthWord_eq_append, BitVec.extractLsb'_append_eq_of_le (by omega)]
  exact BitVec.extractLsb'_zero

/-- Settles O11: the halves are those of the append, and each byte lies in one of them. -/
theorem lengthWordPacking : Obligations.LengthWordPacking := by
  intro a b
  refine ⟨?_, ?_, fun i hi => laneByte_lengthWord_low a hi, fun i hi _ => laneByte_lengthWord_high a hi, lengthWord_xor a b⟩
  · rw [lengthWord_eq_append]
    exact BitVec.extractLsb'_append_eq_right
  · rw [lengthWord_eq_append]
    exact BitVec.extractLsb'_append_eq_left

/-! ### Split and combine (R114) -/

/-- Settles O12: `split` takes the two lanes a block is made of. -/
theorem splitAndCombine : Obligations.SplitAndCombine :=
  fun b lo hi => ⟨rfl, combine_lowLane_highLane b, congrArg₂ Prod.mk (lowLane_combine lo hi) (highLane_combine lo hi)⟩

/-! ### The constants (R107) -/

/-- Settles O28: by the frame every command's answer keeps. -/
theorem commandsLeaveTheRest : Obligations.CommandsLeaveTheRest := by
  intro i s t hexec
  obtain ⟨-, -, hparams, hfly, hready, hinputs, hdelays, hdraws⟩ := exec_answers_frame hexec
  exact ⟨hparams, hfly, hready, hinputs, hdelays, hdraws⟩

end Sys2Proof.Proofs
end

section
/-!
SUPPORT. Proofs of the statements of 41_session.md: what STATUS (R130, R77), LOAD_KEYIV (R131) and INIT (R132) leave.
-/
namespace Sys2Proof.Proofs
open Sys2Proof.Machine Sys2Proof.Claims Sys2Proof.Laws

/-! ### STATUS (R77, R130) -/

/-- R77: each field of a word packed from seven, of the widths of the STATUS word, is read back at its bits. -/
theorem extractLsb'_append_fields (top msgs ads : BitVec 64) (mid : BitVec 55) (valid : BitVec 1) (low : BitVec 5)
    (phase : BitVec 3) :
    let w := top ++ msgs ++ ads ++ mid ++ valid ++ low ++ phase
    w.extractLsb' 0 3 = phase ∧ w.extractLsb' 3 5 = low ∧ w.extractLsb' 8 1 = valid ∧ w.extractLsb' 9 55 = mid ∧
      w.extractLsb' 64 64 = ads ∧ w.extractLsb' 128 64 = msgs ∧ w.extractLsb' 192 64 = top := by
  simp only [BitVec.extractLsb'_append_eq_of_le, BitVec.extractLsb'_append_eq_right, BitVec.extractLsb'_eq_self,
    Nat.reduceLeDiff, Nat.reduceSub, and_self]

/-- Settles O13: STATUS passes every check, and the fields packed into the STATUS word are read back from it. -/
theorem statusAnswersTheWord : Obligations.StatusAnswersTheWord := by
  intro d s
  obtain ⟨hphase, hlow, hvalid, hmid, hads, hmsgs, htop⟩ := extractLsb'_append_fields 0#64 s.msgCount s.adCount 0#55
    (BitVec.ofBool s.keyValid) 0#5 (phaseBits s.phase)
  refine ⟨statusWord s, exec_of_allowed (.status d), hphase.trans ?_, hlow, hvalid.trans ?_, hmid, hads, hmsgs, htop⟩
  · cases s.phase <;> rfl
  · cases s.keyValid <;> rfl

/-! ### LOAD_KEYIV (R131) -/

/-- Settles O14: LOAD_KEYIV passes every check, and its rule writes the fields named. -/
theorem loadKeyIvResult : Obligations.LoadKeyIvResult :=
  fun key iv _ => exec_of_allowed (.loadKeyIv key iv)

/-! ### INIT (R132) -/

/-- R111, R132: the lanes INIT leaves, with its blank rounds written lane by lane. -/
theorem initLanes_eq_iterate_updated (p : Params) (key iv : Lane) :
    initLanes p key iv = Nat.iterate (updated p p.z0 p.z1 p.z0) 15 (loadedLanes p key iv) := by
  have hround : initRound p = updated p p.z0 p.z1 p.z0 := funext (updateLaneByLane p p.z0 p.z1 p.z0)
  rw [initLanes, hround]

/-- R202, R205: without a key, a command that needs one is refused in every phase. -/
theorem exec_of_keyless {i : Instr} {s : State} (hres : isReserved i.opcode = false) (hneeds : needsKey i.opcode = true)
    (hkey : s.keyValid = false) : exec i s = .next (raise .noKey s) := by
  simp [exec_eq_perform, perform, hres, hneeds, hkey]

/-- Settles O15: with a key INIT is allowed and its rule is performed; without one the key check refuses it. -/
theorem initResult : Obligations.InitResult := by
  intro d s
  refine ⟨fun hkey => ?_, fun hkey => exec_of_keyless rfl rfl hkey⟩
  simp only [exec_of_allowed (.init d hkey), bodyOf, initLanes_eq_iterate_updated]
  rfl

end Sys2Proof.Proofs
end

section
/-!
SUPPORT. Proof of the statement of 42_absorb.md: what ABSORB_AD leaves (R150), and the refusal outside the phases a command is legal in (R203).
-/
namespace Sys2Proof.Proofs
open Sys2Proof.Machine Sys2Proof.Claims Sys2Proof.Laws

/-- R150: absorbing a block, written lane by lane. -/
theorem absorbBlock_eq_updated (p : Params) (b : Block) (l : Lanes) :
    absorbBlock p b l = updated p (lowLane b) (highLane b) (lowLane b ^^^ highLane b) l :=
  updateLaneByLane p _ _ _ l

/-- R203, R205: with a key, a command that is not reserved is refused in a phase it is not legal in. -/
theorem exec_of_not_legal {i : Instr} {s : State} (hres : isReserved i.opcode = false) (hkey : s.keyValid = true)
    (hlegal : legal s.phase i.opcode = false) : exec i s = .next (raise .seqError s) := by
  simp [exec_eq_perform, perform, hres, hkey, hlegal]

/-- Settles O16: in AD with a key ABSORB_AD is allowed and its rule is performed; the key check and the phase check refuse it elsewhere. -/
theorem absorbAdResult : Obligations.AbsorbAdResult := by
  intro d s
  refine ⟨fun hkey hphase => ?_, fun hkey => exec_of_keyless rfl rfl hkey,
    fun hkey hphase => exec_of_not_legal rfl hkey (decide_eq_false hphase)⟩
  simp only [exec_of_allowed (.absorbAd d hkey hphase), bodyOf, absorbBlock_eq_updated]
  rfl

end Sys2Proof.Proofs
end

section
/-!
SUPPORT. Proofs of the statements of 43_encrypt_decrypt.md: what ENCRYPT (R160) and DECRYPT (R161) leave, their derived forms, and the round trip in both directions (R162).
-/
namespace Sys2Proof.Proofs
open Sys2Proof.Machine Sys2Proof.Claims Sys2Proof.Laws

/-- R205: a command that answered OK passed the checks, and its rule was performed. -/
theorem exec_ok {i : Instr} {s t : State} (hexec : exec i s = .next t) (hok : t.rspStatus = 0x0#4) :
    Allowed i s ∧ t = bodyOf i s := by
  obtain ⟨e, herror, rfl⟩ | hperformed := exec_cases hexec
  · exact absurd (rspCodeBits_eq_zero hok) herror
  · exact hperformed

/-! ### The lanes and the answers (R160, R161, R162) -/

/-- R161: the shift without absorbing, written lane by lane. -/
theorem shiftLanes_eq_updated (p : Params) (l : Lanes) : shiftLanes p l = updated p 0#128 0#128 0#128 l :=
  updateLaneByLane p _ _ _ l

/-- R161: the head patch, written lane by lane. -/
theorem patchHeads_eq_lanes (mLo mHi : Lane) (l : Lanes) :
    patchHeads mLo mHi l =
      ⟨#v[l.t3[0] ^^^ mLo, l.t3[1], l.t3[2]], #v[l.t4[0] ^^^ mHi, l.t4[1], l.t4[2], l.t4[3]],
       #v[l.t6[0] ^^^ (mLo ^^^ mHi), l.t6[1], l.t6[2], l.t6[3], l.t6[4], l.t6[5]]⟩ := by
  rw [patchHeads, Lanes.mk.injEq]
  refine ⟨?_, ?_, ?_⟩
  all_goals
    ext i hi : 1
    interval_cases i <;> simp

/-- R160: of the message, only `m_lo` enters the low ciphertext lane. -/
theorem lowLane_cipherBlock_absorbBlock (p : Params) (m : Block) (l : Lanes) :
    lowLane (cipherBlock (absorbBlock p m l)) = keystreamLo (shiftLanes p l) ^^^ lowLane m := by
  rw [cipherBlock, lowLane_combine, absorbBlock_eq_patchHeads, keystreamLo_patchHeads, BitVec.xor_comm]

/-- R160: both message lanes enter the high ciphertext lane. -/
theorem highLane_cipherBlock_absorbBlock (p : Params) (m : Block) (l : Lanes) :
    highLane (cipherBlock (absorbBlock p m l)) = keystreamHi (shiftLanes p l) ^^^ lowLane m ^^^ highLane m := by
  rw [cipherBlock, highLane_combine, absorbBlock_eq_patchHeads, keystreamHi_patchHeads]
  ac_rfl

/-- R161: DECRYPT leaves the lanes that absorbing the block it answers gives. -/
theorem decryptLanes_fst (p : Params) (c : Block) (l : Lanes) :
    (decryptLanes p c l).1 = absorbBlock p (decryptLanes p c l).2 l := by
  simp [decryptLanes, absorbBlock_eq_patchHeads]

/-- R162: patching the recovered message lanes in gives back the keystream lanes the ciphertext block was made with. -/
theorem cipherBlock_patchHeads_messageLanes (c : Block) (l : Lanes) :
    cipherBlock (patchHeads (messageLanes c l).1 (messageLanes c l).2 l) = c := by
  simp [cipherBlock, keystreamLo_patchHeads, keystreamHi_patchHeads, messageLanes, BitVec.xor_assoc]

/-- R162: the keystream lanes of the state DECRYPT leaves are the ciphertext block. -/
theorem cipherBlock_decryptLanes (p : Params) (c : Block) (l : Lanes) : cipherBlock (decryptLanes p c l).1 = c :=
  cipherBlock_patchHeads_messageLanes c (shiftLanes p l)

/-! ### The derived forms of ENCRYPT and DECRYPT (R160, R161) -/

/-- Settles O30: the patch that absorbing is changes the two keystream lanes by the message lanes only. -/
theorem encryptClosedForm : Obligations.EncryptClosedForm := by
  intro m s t hexec hok
  obtain ⟨-, rfl⟩ := exec_ok hexec hok
  rw [← shiftLanes_eq_updated]
  exact ⟨lowLane_cipherBlock_absorbBlock s.params m s.lanes, highLane_cipherBlock_absorbBlock s.params m s.lanes⟩

/-- Settles O31: a shift and a patch of the heads are the absorption of the patched lanes. -/
theorem decryptAbsorbsItsAnswer : Obligations.DecryptAbsorbsItsAnswer := by
  intro c s t hexec hok
  obtain ⟨-, rfl⟩ := exec_ok hexec hok
  exact (decryptLanes_fst s.params c s.lanes).trans (absorbBlock_eq_updated s.params _ s.lanes)

/-! ### The round trip (R162) -/

/-- Settles O32: the lane computation of DECRYPT, on the answered block, is that of ENCRYPT undone. -/
theorem encryptThenDecrypt : Obligations.EncryptThenDecrypt := by
  intro m s t s' hexec hok hparams hlanes hkey hphase
  obtain ⟨-, rfl⟩ := exec_ok hexec hok
  have hround : decryptLanes s'.params (bodyOf (.encrypt m) s).rspData s'.lanes = ((bodyOf (.encrypt m) s).lanes, m) := by
    rw [hparams, hlanes]
    exact decryptLanes_cipherBlock s.params m s.lanes
  exact ⟨_, exec_of_allowed (.decrypt _ hkey hphase), rfl, congrArg Prod.snd hround, congrArg Prod.fst hround, rfl, rfl⟩

/-- Settles O33: ENCRYPT absorbs the recovered block, so it leaves the lanes DECRYPT left, and their keystream is the ciphertext block. -/
theorem decryptThenEncrypt : Obligations.DecryptThenEncrypt := by
  intro c s t s' hexec hok hparams hlanes hkey hphase
  obtain ⟨-, rfl⟩ := exec_ok hexec hok
  have hround : absorbBlock s'.params (bodyOf (.decrypt c) s).rspData s'.lanes = (bodyOf (.decrypt c) s).lanes := by
    rw [hparams, hlanes]
    exact (decryptLanes_fst s.params c s.lanes).symm
  exact ⟨_, exec_of_allowed (.encrypt _ hkey hphase), rfl,
    (congrArg cipherBlock hround).trans (cipherBlock_decryptLanes s.params c s.lanes), hround⟩

/-! ### The whole next states (R160, R161) -/

/-- Settles O17: in AD and ENC with a key ENCRYPT is allowed and its rule is performed; the key check and the phase check refuse it elsewhere. -/
theorem encryptResult : Obligations.EncryptResult := by
  intro m s
  refine ⟨fun hkey hphase => ?_, fun hkey => exec_of_keyless rfl rfl hkey,
    fun hkey hphase => exec_of_not_legal rfl hkey (decide_eq_false (not_or.mpr hphase))⟩
  simp only [exec_of_allowed (.encrypt m hkey hphase), bodyOf, absorbBlock_eq_updated]
  rfl

/-- Settles O18: in AD and DEC with a key DECRYPT is allowed and its rule is performed; the key check and the phase check refuse it elsewhere. -/
theorem decryptResult : Obligations.DecryptResult := by
  intro c s
  refine ⟨fun hkey hphase => ?_, fun hkey => exec_of_keyless rfl rfl hkey,
    fun hkey hphase => exec_of_not_legal rfl hkey (decide_eq_false (not_or.mpr hphase))⟩
  simp only [exec_of_allowed (.decrypt c hkey hphase), bodyOf, decryptLanes, shiftLanes_eq_updated, patchHeads_eq_lanes]
  rfl

end Sys2Proof.Proofs
end

section
/-!
SUPPORT. Proof of the statement of 44_finalize.md: what FINALIZE leaves and answers (R180, R115).
-/
namespace Sys2Proof.Proofs
open Sys2Proof.Machine Sys2Proof.Claims Sys2Proof.Laws

/-- R112, R180: the lanes FINALIZE leaves, with the length update and the blank rounds written lane by lane. -/
theorem finalLanes_eq_iterate_updated (p : Params) (a n : Count) (l : Lanes) :
    finalLanes p a n l = Nat.iterate (updated p p.z1 p.z0 p.z1) 20
      (updated p (0#64 ++ a) (0#64 ++ n) (0#64 ++ (a ^^^ n)) l) := by
  have hround : finalRound p = updated p p.z1 p.z0 p.z1 := funext (updateLaneByLane p p.z1 p.z0 p.z1)
  rw [finalLanes, hround, updateLaneByLane, lengthWord_eq_append, lengthWord_eq_append, lengthWord_eq_append]

/-- R8: a register's lanes as a list, in the order of their indices. -/
theorem toList_eq_ofFn {n : Nat} (t : Vector Lane n) : t.toList = List.ofFn fun i : Fin n => t[i] :=
  (congrArg Vector.toList Vector.ofFn_getElem.symm).trans Vector.toList_ofFn

/-- R115: the 13 lanes, listed. -/
theorem allLanes_eq (l : Lanes) :
    allLanes l = [l.t3[0], l.t3[1], l.t3[2], l.t4[0], l.t4[1], l.t4[2], l.t4[3],
      l.t6[0], l.t6[1], l.t6[2], l.t6[3], l.t6[4], l.t6[5]] := by
  rw [allLanes, toList_eq_ofFn, toList_eq_ofFn, toList_eq_ofFn]
  rfl

/-- R115: the tag is the XOR of the lanes listed, whichever end it is taken from. -/
theorem tagOf_eq_foldr_allLanes (l : Lanes) : tagOf l = (allLanes l).foldr (fun x y => x ^^^ y) 0#128 := by
  rw [allLanes_eq]
  simp only [tagOf, List.foldr_cons, List.foldr_nil, BitVec.xor_zero, BitVec.xor_assoc]

/-- R180: the tag is the low lane of the answer, with 128 zero bits above it. -/
theorem zext256_eq_append (tag : Lane) : zext256 tag = 0#128 ++ tag :=
  BitVec.setWidth_eq_append (by decide)

/-- R203: FINALIZE is not legal in IDLE and DONE. -/
theorem legal_finalize_eq_false {ph : Phase} (d : Block) (h : ph = .idle ∨ ph = .done) :
    legal ph (Instr.opcode (.finalize d)) = false := by
  obtain rfl | rfl := h <;> rfl

/-- Settles O19: in AD, ENC and DEC with a key FINALIZE is allowed and its rule is performed; the key check and the phase check refuse it elsewhere. -/
theorem finalizeResult : Obligations.FinalizeResult := by
  intro d s
  refine ⟨fun hkey hphase => ?_, fun hkey => exec_of_keyless rfl rfl hkey,
    fun hkey hphase => exec_of_not_legal rfl hkey (legal_finalize_eq_false d hphase)⟩
  simp only [exec_of_allowed (.finalize d hkey hphase), bodyOf, zext256_eq_append, tagOf_eq_foldr_allLanes,
    finalLanes_eq_iterate_updated]
  rfl

end Sys2Proof.Proofs
end

section
/-!
SUPPORT. Proofs of the statements of 60_exceptions.md: every edge and every command is answered (R200), the reserved opcodes (R201), the session table (R203), what an error leaves
(R204) and the order of the error codes (R205).
-/
namespace Sys2Proof.Proofs
open Sys2Proof.Machine Sys2Proof.Claims Sys2Proof.Laws

/-! ### No edge stops (R200) -/

/-- Settles O41: each of the edges of `step` names its next state, but for the one that performs a command, and every command is answered. -/
theorem noEdgeStops : Obligations.NoEdgeStops := by
  intro s
  unfold step
  split
  case isTrue => exact ⟨resetEdge s, rfl⟩
  case isFalse =>
    split
    case isTrue => exact ⟨responseEdge s, rfl⟩
    case isFalse =>
      split
      next f _ =>
        split
        case isTrue => exact exec_answers (decode f.command) (performEdge s)
        case isFalse => exact ⟨waitEdge f s, rfl⟩
      next => exact ⟨commandEdge s, rfl⟩

/-! ### The error responses (R201, R204, R205) -/

/-- Settles O20: each of the nine opcodes is reserved, so the first check refuses the command. -/
theorem reservedResult : Obligations.ReservedResult := by
  intro d s
  have hrefused (i : Instr) (hres : isReserved i.opcode = true) : exec i s = .next (refusedWith 0x1#4 s) :=
    exec_of_isReserved s hres
  exact ⟨hrefused _ rfl, hrefused _ rfl, hrefused _ rfl, hrefused _ rfl, hrefused _ rfl, hrefused _ rfl, hrefused _ rfl,
    hrefused _ rfl, hrefused _ rfl⟩

/-- Settles O21: every command is answered, and `exec_rspStatus` gives the code of the answer. -/
theorem statusCodeByPriority : Obligations.StatusCodeByPriority := by
  intro i s
  obtain ⟨t, hexec⟩ := exec_answers i s
  exact ⟨t, hexec, (exec_answers_frame hexec).rspPending, exec_rspStatus hexec⟩

/-- Settles O23: a command that answers an error was refused, for the rule of an allowed command answers OK. -/
theorem errorWritesNoState : Obligations.ErrorWritesNoState := by
  intro i s t hexec herror
  obtain ⟨e, -, rfl⟩ | ⟨hallowed, rfl⟩ := exec_cases hexec
  · rfl
  · exact absurd hallowed.bodyOf_rspStatus herror

/-! ### The session table (R203) -/

/-- R203: the rule of an allowed command leaves the phase of the table's entry. -/
theorem Allowed.sessionTable_eq {i : Instr} {s : State} (h : Allowed i s) :
    sessionTable i s.phase = some (bodyOf i s).phase := by
  cases h with
  | status | loadKeyIv | init => rfl
  | absorbAd _ _ hphase =>
    rw [hphase]
    exact congrArg some hphase.symm
  | encrypt _ _ hphase | decrypt _ _ hphase => obtain hphase | hphase := hphase <;> rw [hphase] <;> rfl
  | finalize _ _ hphase => obtain hphase | hphase | hphase := hphase <;> rw [hphase] <;> rfl

/-- R203: where a command is not legal the table has no entry. -/
theorem sessionTable_eq_none {i : Instr} {ph : Phase} (hres : isReserved i.opcode = false)
    (hlegal : legal ph i.opcode = false) : sessionTable i ph = none := by
  rw [legal_eq_isSome_sessionTable ph hres] at hlegal
  exact Option.isNone_iff_eq_none.mp (Option.isSome_eq_false_iff.mp hlegal)

/-- R202: a command of the table that passes the key check is not one of INIT to FINALIZE without a key. -/
theorem not_keyless_of_keyCheck {i : Instr} {s : State} (hop : i.opcode.toNat < 7)
    (hkey : needsKey i.opcode = false ∨ s.keyValid = true) : ¬(s.keyValid = false ∧ 0x2 ≤ i.opcode.toNat) := by
  rintro ⟨hkeyless, hlow⟩
  obtain hneeds | hloaded := hkey
  · exact of_decide_eq_false hneeds ⟨hlow, Nat.le_of_lt_succ hop⟩
  · exact ne_true_of_eq_false hkeyless hloaded

/-- Settles O22: a command of the table is refused for want of a key, refused where the table has no entry, or performed where it has one. (The name `sessionTable` is the table's
own.) -/
theorem exec_sessionTable : Obligations.SessionTable := by
  intro i s hop
  obtain ⟨t, hexec⟩ := exec_answers i s
  refine ⟨t, hexec, ?_⟩
  rw [exec_eq_perform] at hexec
  obtain ⟨hres, -⟩ | ⟨-, hneeds, hkeyless, rfl⟩ | ⟨hres, hkey, hlegal, rfl⟩ | ⟨hres, hkey, hlegal, rfl⟩ :=
    perform_cases hexec
  · exact absurd (of_decide_eq_true hres) (Nat.not_le_of_lt hop)
  · rw [if_pos ⟨hkeyless, (of_decide_eq_true hneeds).1⟩]
    rfl
  · rw [if_neg (not_keyless_of_keyCheck hop hkey), sessionTable_eq_none hres hlegal]
    rfl
  · have hallowed : Allowed i s := allowed_of_checks hres hkey hlegal
    rw [if_neg (not_keyless_of_keyCheck hop hkey), hallowed.sessionTable_eq]
    exact ⟨hallowed.bodyOf_rspStatus, rfl⟩

end Sys2Proof.Proofs
end

section
/-!
SUPPORT. Proofs of the statements of 70_reset_and_hazards.md: the reset edge (R231, R232), the response held until it is taken (R236), a command answered within its latency (R237), the
delay after reset (R232), and the command held through it (R235).
-/
namespace Sys2Proof.Proofs
open Sys2Proof.Machine Sys2Proof.Safety Sys2Proof.Claims Sys2Proof.Laws

/-! ### The reset edge (R230, R231, R232) -/

/-- R230: an edge that samples `rst` = 1 resets, whatever the engine holds. -/
theorem step_of_reset {s : State} (hrst : (sampledPins s).rst = true) : step s = .next (resetEdge s) :=
  if_pos hrst

/-- Settles O43: the next state is `resetEdge`, which takes every reset value. -/
theorem resetEdgeResets : Obligations.ResetEdgeResets :=
  fun _ hrst => ⟨_, step_of_reset hrst, rfl, rfl, rfl, rfl, rfl, rfl⟩

/-- Settles O44: the delay a reset edge draws is a remainder modulo `LAT_RESET + 1`. -/
theorem resetStartsReadyDelay : Obligations.ResetStartsReadyDelay :=
  fun _ hrst => ⟨_, step_of_reset hrst, Nat.le_of_lt_succ (Nat.mod_lt _ (Nat.succ_pos _)), rfl, rfl⟩

/-! ### The edges without a reset (R232, R236, R237) -/

section
variable {s : State} (hrst : (sampledPins s).rst = false)
include hrst

/-- R236: with a response pending the edge keeps it or takes it. -/
theorem step_of_pending (hpend : s.rspPending = true) : step s = .next (responseEdge s) := by
  simp [step, hrst, hpend]

/-- R236: an edge with `rsp_ready` = 0 leaves the response pending and consumes its sample. -/
theorem step_of_untaken (hpend : s.rspPending = true) (huntaken : (sampledPins s).rspReady = false) :
    step s = .next (popEdge s) := by
  rw [step_of_pending hrst hpend, responseEdge, huntaken, Bool.not_false, ← hpend]
  rfl

/-- R236: an edge with `rsp_ready` = 1 takes the response. -/
theorem step_of_taken (hpend : s.rspPending = true) (htaken : (sampledPins s).rspReady = true) :
    step s = .next { popEdge s with rspPending := false } := by
  rw [step_of_pending hrst hpend, responseEdge, htaken, Bool.not_true]

/-- R237: a command with more edges to wait has one fewer after the edge. -/
theorem step_of_waiting {t : Transaction} {w : Nat} (hpend : s.rspPending = false)
    (hfly : s.inFlight = some ⟨t, w + 1⟩) : step s = .next (waitEdge ⟨t, w + 1⟩ s) := by
  simp [step, hrst, hpend, hfly]

/-- R232: while the delay after reset runs, an edge only counts it down. -/
theorem step_of_delay {w : Nat} (hpend : s.rspPending = false) (hnone : s.inFlight = none)
    (hwait : s.readyWait = w + 1) : step s = .next { popEdge s with readyWait := w } := by
  simp [step, commandEdge, cmdReady, hrst, hpend, hnone, hwait]

end

/-- Settles O49: `step_of_untaken` and `step_of_taken`, where a taken response keeps its status and data. -/
theorem responseHeldUntilTaken : Obligations.ResponseHeldUntilTaken :=
  fun _ hrst hpend =>
    ⟨step_of_untaken hrst hpend, fun htaken => ⟨_, _, step_of_taken hrst hpend htaken⟩⟩

/-! ### Runs without a reset (R50) -/

/-- What is true of the quiet pins and of the next `k + 1` entries of the script is true of the sample of the next edge and of the `k` entries
after it. -/
theorem sampledPins_and_rest_of_take_succ {P : Pins → Prop} {k : Nat} {s : State} (hquiet : P Pins.quiet)
    (h : ∀ p ∈ s.inputs.take (k + 1), P p) : P (sampledPins s) ∧ ∀ p ∈ (popEdge s).inputs.take k, P p := by
  rw [sampledPins, popEdge_inputs]
  cases hin : s.inputs with
  | nil => exact ⟨hquiet, by simp⟩
  | cons p ps =>
    rw [hin, List.take_succ_cons] at h
    exact List.forall_mem_cons.mp h

/-- Where no reset is sampled at the next `k + 1` edges, none is at the next edge, nor at the `k` after it. -/
theorem noReset_succ {k : Nat} {s : State} (h : NoReset (k + 1) s) : (sampledPins s).rst = false ∧ NoReset k (popEdge s) :=
  sampledPins_and_rest_of_take_succ (P := fun p => p.rst = false) rfl h

/-- Settles O54: each edge leaves the response pending and consumes one sample. -/
theorem untakenResponseStalls : Obligations.UntakenResponseStalls := by
  intro k
  induction k with
  | zero => exact fun s _ _ _ => run_zero s
  | succ k ih =>
    intro s hpend hreset huntaken
    obtain ⟨hrst, hlater⟩ := noReset_succ hreset
    obtain ⟨hready, hlaterReady⟩ := sampledPins_and_rest_of_take_succ (P := fun p => p.rspReady = false) rfl huntaken
    rw [run_succ k (step_of_untaken hrst hpend hready), ← List.drop_tail]
    exact ih (popEdge s) hpend hlater hlaterReady

/-- R237: a command with `w` edges to wait is performed at the last edge of a run of `w + 1`. -/
theorem run_inFlight (t : Transaction) (w : Nat) {s : State} (hpend : s.rspPending = false)
    (hfly : s.inFlight = some ⟨t, w⟩) (hreset : NoReset (w + 1) s) :
    Host.Core.run core (w + 1) s = exec (decode t) { s with inFlight := none, inputs := s.inputs.drop (w + 1) } := by
  induction w generalizing s with
  | zero =>
    obtain ⟨u, hexec⟩ := exec_answers (decode t) (performEdge s)
    have hstep : step s = .next u := (step_of_performing ⟨(noReset_succ hreset).1, hpend, hfly, rfl⟩).trans hexec
    rw [List.drop_one]
    exact (run_succ 0 hstep).trans hexec.symm
  | succ w ih =>
    obtain ⟨hrst, hlater⟩ := noReset_succ hreset
    rw [run_succ _ (step_of_waiting hrst hpend hfly), ← List.drop_tail]
    exact ih (s := waitEdge ⟨t, w + 1⟩ s) hpend rfl hlater

/-- Settles O53: `run_inFlight` for the command and the wait of `f`. -/
theorem responseWithinLatency : Obligations.ResponseWithinLatency :=
  fun _ f hpend hfly hreset => run_inFlight f.command f.wait hpend hfly hreset

/-! ### The delay after reset (R232, R235) -/

/-- R232: a run of as many edges as the delay ends it and changes nothing else. -/
theorem run_delay (w : Nat) {s : State} (hpend : s.rspPending = false) (hnone : s.inFlight = none)
    (hwait : s.readyWait = w) (hreset : NoReset w s) :
    Host.Core.run core w s = .next { s with readyWait := 0, inputs := s.inputs.drop w } := by
  induction w generalizing s with
  | zero =>
    have hready : s = { s with readyWait := 0 } := by rw [← hwait]
    exact congrArg Host.Outcome.next hready
  | succ w ih =>
    obtain ⟨hrst, hlater⟩ := noReset_succ hreset
    rw [run_succ w (step_of_delay hrst hpend hnone hwait), ← List.drop_tail]
    exact ih (s := { popEdge s with readyWait := w }) hpend hnone rfl hlater

/-- Settles O55: `run_delay`, after which nothing holds `cmd_ready` at 0. -/
theorem readyAfterReset : Obligations.ReadyAfterReset :=
  fun _ hpend hnone hreset =>
    ⟨_, run_delay _ hpend hnone rfl hreset, cmdReady_eq_true.mpr ⟨hpend, hnone, rfl⟩, rfl⟩

/-- R232: nothing is accepted while the delay after reset runs. -/
theorem accepts_eq_false_of_delay {s : State} {w : Nat} (hwait : s.readyWait = w + 1) : accepts s = false := by
  simp [accepts, cmdReady, hwait]

/-- R235: a command offered and held is in flight once the delay and one more edge have passed. -/
theorem run_held (w : Nat) {s : State} (hpend : s.rspPending = false) (hnone : s.inFlight = none)
    (hwait : s.readyWait = w) (hvalid : (sampledPins s).cmdValid = true) (hreset : NoReset (w + 1) s)
    (hholds : HostHolds (w + 1) s) :
    ∃ (t : State) (v : Nat), Host.Core.run core (w + 1) s = .next t ∧
      t.inFlight = some ⟨transaction (sampledPins s).cmdOp (sampledPins s).cmdData, v⟩ := by
  induction w generalizing s with
  | zero =>
    have haccepts : accepts s = true :=
      accepts_eq_true.mpr ⟨(noReset_succ hreset).1, hvalid, cmdReady_eq_true.mpr ⟨hpend, hnone, hwait⟩⟩
    exact ⟨acceptEdge s, _, run_succ 0 (step_of_accepts haccepts), rfl⟩
  | succ w ih =>
    obtain ⟨hrst, hlater⟩ := noReset_succ hreset
    obtain ⟨hheld, hnext⟩ := hholds
    obtain ⟨hvalidNext, hop, hdata⟩ := hheld hrst hvalid (accepts_eq_false_of_delay hwait)
    have hstep : step s = .next { popEdge s with readyWait := w } := step_of_delay hrst hpend hnone hwait
    rw [run_succ _ hstep, ← hop, ← hdata]
    exact ih hpend hnone rfl hvalidNext hlater (hnext _ hstep)

/-- Settles O56: `run_held`, where the transaction is the pair the statement writes out. -/
theorem heldCommandIsAccepted : Obligations.HeldCommandIsAccepted :=
  fun _ hpend hnone hvalid hreset hholds => run_held _ hpend hnone rfl hvalid hreset hholds

end Sys2Proof.Proofs
end

section
/-!
SUPPORT. Proof of the statement of 30_encoding.md about five transactions written out digit by digit (R70 to R72).
-/
namespace Sys2Proof.Proofs

/-- R74: the encoding of a command decodes to no other command. -/
theorem decode_eq_of_eq_encode {t : Transaction} {i : Instr} (hword : t = encode i) : decode t = i := by
  rw [hword, decodeOfEncode i]

/-- Settles O2: the digits of each word are those of its command's encoding, `OP` before `DATA`; in the LOAD_KEYIV word
the IV, the high lane, stands before the key (R71). -/
theorem writtenWordsDecode : Obligations.WrittenWordsDecode := by
  refine ⟨?_, ?_, ?_, ?_, ?_⟩
  all_goals exact decode_eq_of_eq_encode (by decide +kernel)

end Sys2Proof.Proofs
end
